-- ==== Sys2Proof/Word.lean ====
section
/-! DEFINITION. The word types of DCCCORE: unsigned bit vectors of a stated width (00_scope R10). -/

namespace Sys2Proof

/-- A byte of a frame, of the receive FIFO or of the decoder table (20_memory R60). -/
abbrev Byte := BitVec 8

end Sys2Proof
end

