-- ==== Sys2Proof/Config.lean ====
section
/-! DEFINITION. The parameters an implementation fixes (00_scope R9, 93 U7) and the constants the spec fixes (R8). -/

namespace Sys2Proof

/-- The parameters that rule R9 leaves open. A state carries them as plain data that no step changes, so a statement
about every state holds for every choice of them (log 1). TICK_PERIOD is left out: no rule depends on it. -/
structure Config where
  /-- TICKS_PER_MS: ticks per increment of `ms` (R9, R112, D2). -/
  ticksPerMs : Nat
  /-- N_LOCO: entries of the statistics and loco-address tables (R9, D3). -/
  nLoco : Nat
  /-- RX_DEPTH: capacity of the receive FIFO in bytes (R9, R67, D4). -/
  rxDepth : Nat
  /-- EMIT_END_BIT: a one-valued bit follows the last byte of a frame (R9, R80, D5). -/
  emitEndBit : Bool
  deriving DecidableEq, Repr

/-- The values R9 suggests (34, 64, 8) and its default for EMIT_END_BIT. DESIGN CHOICE, log 1. -/
def Config.suggested : Config where
  ticksPerMs := 34
  nLoco := 64
  rxDepth := 8
  emitEndBit := false

/-- The ranges R9 gives, and that `ms_div`, which counts 0..TICKS_PER_MS - 1, has 16 bits (10_state R30). -/
def Config.legal (c : Config) : Bool :=
  decide (1 ≤ c.ticksPerMs) && decide (c.ticksPerMs ≤ 65536) && decide (1 ≤ c.nLoco) && decide (c.nLoco ≤ 255) &&
    decide (6 ≤ c.rxDepth)

/-- LOCO_NONE, the loco index of a frame without a statistics slot (R9). -/
def locoNone : BitVec 8 := 0xFF

/-- BROADCAST, the address operand that means no address (R8). -/
def broadcast : BitVec 16 := 0xFFFF

/-- PRE_NORC, the preamble length outside RailCom mode (R8). -/
def preNorc : BitVec 5 := 12

/-- PRE_RC, the preamble length in RailCom mode (R8). -/
def preRc : BitVec 5 := 16

/-- PRE_PGM, the preamble length in programming mode (R8). -/
def prePgm : BitVec 5 := 20

/-- LEN_MIN, the shortest frame in bytes (R8). -/
def lenMin : Nat := 2

/-- LEN_MAX, the longest frame in bytes (R8). -/
def lenMax : Nat := 9

/-- RC2_MAX, the longest channel-2 read that is a frame (R8). -/
def rc2Max : Nat := 6

/-- WINDOW, the commands counted in one statistics slot (R8). -/
def window : Nat := 50

/-- RC1_STALE_MS, the age at which a channel-1 address is no longer reported (R8). -/
def rc1StaleMs : Nat := 1000

/-- IDLE_FRAME (R8). -/
def idleFrame : List Byte := [0xFF, 0x00, 0xFF]

/-- RESET_FRAME (R8). -/
def resetFrame : List Byte := [0x00, 0x00, 0x00]

end Sys2Proof
end

