-- ==== Sys2Proof/Syntax.lean ====
section
/-! DEFINITION. The syntax of DCCCORE's operations: one constructor of `Instr` per row of spec/opcode_table.json, and
the form in which an operation is invoked: by name with operands (format OP), or as a word of one of the spec's bit
formats (30_encoding R97, R99). -/

namespace Sys2Proof

/-- The two RailCom channels (30_encoding R85). -/
inductive Channel where
  | ch1
  | ch2
  deriving DecidableEq, Repr

/-- The bit formats of `opcode_table.json` (R99). Format DG12 is used on both channels with different identifier maps
(R84, R86), so it is listed once per channel. -/
inductive Format where
  /-- 5-bit `cutout_step` (R94). -/
  | cutoutStep
  /-- 2-bit `tx_state` (R92). -/
  | txState
  /-- 2-bit `mode` (R93). -/
  | mode
  /-- 8-bit received byte (R83). -/
  | rcByte
  /-- 12-bit datagram on channel 1 (R84, R170). -/
  | dg12Ch1
  /-- 12-bit datagram on channel 2 (R84, R86). -/
  | dg12Ch2
  /-- 18-bit datagram (R87). -/
  | dg18
  /-- 36-bit datagram (R88). -/
  | dg36
  deriving DecidableEq, Repr

/-- The names under which the operations of format OP are invoked (R97). -/
inductive OpName where
  | tick
  | ready
  | preSlot
  | dataSlot
  | hamdec
  | ch1dec
  | ch2dec
  | assemble
  | submit
  | setMode
  | getMode
  | boosterOn
  | boosterOff
  | setCutoutInhibit
  | getRc1Addr
  | getRc2Rate
  | getRc2Age
  | getCv
  | clrCv
  | getXpom
  | clrXpom
  | getDyn
  | clrDyn
  | getRc2Addr
  | clrRc2Addr
  | getBufBusy
  | getMs
  | rxbyte
  deriving DecidableEq, Repr

/-- One invocation: an operation by name with its operands as unsigned numbers, or a word of a format. -/
inductive Invocation where
  | op (name : OpName) (args : List Nat)
  | word (fmt : Format) (bits : Nat)
  deriving DecidableEq, Repr

/-- Why an invocation is no operation of DCCCORE: the decoder rejects by one of these names. -/
inductive DecodeError where
  /-- A code of the format that the spec reserves or gives no row: cutout steps 19..31 (R94), a channel-1 identifier
  other than 1 and 2 (R170), an identifier the format does not carry (R86). -/
  | reservedCode (fmt : Format) (bits : Nat)
  /-- A number with more bits than the format has. -/
  | wordTooWide (fmt : Format) (bits : Nat)
  /-- Operands of the wrong number or outside their width. -/
  | badOperands (name : OpName)
  deriving DecidableEq, Repr

/-- The operations of DCCCORE, one constructor per row of the table, in the table's order. -/
inductive Instr where
  /-- TICK, invoked by name: TICK (R110). -/
  | tick
  /-- READY, invoked by name: slot with tx_state = READY (R114). -/
  | ready
  /-- PRE_SLOT, invoked by name: slot with tx_state = PREAMBLE (R116). -/
  | preSlot
  /-- DATA_SLOT, invoked by name: slot with tx_state = DATA (R117). -/
  | dataSlot
  /-- HAMDEC, invoked by name: HamDec(b) (R160). -/
  | hamdec (b : Byte)
  /-- CH1DEC, invoked by name: Ch1Decode(raw) (R170). -/
  | ch1dec (raw : List Byte)
  /-- CH2DEC, invoked by name: Ch2Decode(raw, idx) (R175). -/
  | ch2dec (raw : List Byte) (idx : BitVec 8)
  /-- ASSEMBLE, invoked by name: Assemble(A, B[]) (R210). -/
  | assemble (a : BitVec 16) (payload : List Byte)
  /-- SUBMIT, invoked by name: submit_packet(locoIndex, address, payload[], length) (R212). -/
  | submit (idx : BitVec 8) (a : BitVec 16) (payload : List Byte)
  /-- SET_MODE, invoked by name: set_mode(mode) (R230). -/
  | setMode (m : BitVec 2)
  /-- GET_MODE, invoked by name: get_mode() (R231). -/
  | getMode
  /-- BOOSTER_ON, invoked by name: booster_on() (R232). -/
  | boosterOn
  /-- BOOSTER_OFF, invoked by name: booster_off() (R233). -/
  | boosterOff
  /-- SET_CUTOUT_INHIBIT, invoked by name: set_cutout_inhibit(v) (R234). -/
  | setCutoutInhibit (v : BitVec 1)
  /-- GET_RC1_ADDR, invoked by name: get_rc1_addr() (R235). -/
  | getRc1Addr
  /-- GET_RC2_RATE, invoked by name: get_rc2_rate(locoIndex) (R236). -/
  | getRc2Rate (idx : BitVec 8)
  /-- GET_RC2_AGE, invoked by name: get_rc2_age(locoIndex) (R237). -/
  | getRc2Age (idx : BitVec 8)
  /-- GET_CV, invoked by name: get_cv() (R238). -/
  | getCv
  /-- CLR_CV, invoked by name: clr_cv() (R239). -/
  | clrCv
  /-- GET_XPOM, invoked by name: get_xpom(seq) (R240). -/
  | getXpom (q : BitVec 2)
  /-- CLR_XPOM, invoked by name: clr_xpom(seq) (R241). -/
  | clrXpom (q : BitVec 2)
  /-- GET_DYN, invoked by name: get_dyn() (R242). -/
  | getDyn
  /-- CLR_DYN, invoked by name: clr_dyn() (R243). -/
  | clrDyn
  /-- GET_RC2_ADDR, invoked by name: get_rc2_addr() (R244). -/
  | getRc2Addr
  /-- CLR_RC2_ADDR, invoked by name: clr_rc2_addr() (R245). -/
  | clrRc2Addr
  /-- GET_BUF_BUSY, invoked by name: get_buf_busy() (R246). -/
  | getBufBusy
  /-- GET_MS, invoked by name: get_ms() (R247). -/
  | getMs
  /-- RXBYTE, invoked by name: RxByte(b), agent RXENV (R67). -/
  | rxbyte (b : Byte)
  /-- CO_NOP0: cutout step 0 (R94, R142). -/
  | coNop0
  /-- CO_FORCE_POS: cutout step 1 (R94, R143). -/
  | coForcePos
  /-- CO_ASSERT: cutout step 2 (R94, R144). -/
  | coAssert
  /-- CO_IDLE_3: cutout step 3 (R94, R145). -/
  | coIdle3
  /-- CO_RX_ENABLE: cutout step 4 (R94, R146). -/
  | coRxEnable
  /-- CO_RX_FLUSH: cutout step 5 (R94, R147). -/
  | coRxFlush
  /-- CO_IDLE_6: cutout step 6 (R94, R145). -/
  | coIdle6
  /-- CO_IDLE_7: cutout step 7 (R94, R145). -/
  | coIdle7
  /-- CO_IDLE_8: cutout step 8 (R94, R145). -/
  | coIdle8
  /-- CO_READ_CH1: cutout step 9 (R94, R148). -/
  | coReadCh1
  /-- CO_IDLE_10: cutout step 10 (R94, R145). -/
  | coIdle10
  /-- CO_IDLE_11: cutout step 11 (R94, R145). -/
  | coIdle11
  /-- CO_IDLE_12: cutout step 12 (R94, R145). -/
  | coIdle12
  /-- CO_IDLE_13: cutout step 13 (R94, R145). -/
  | coIdle13
  /-- CO_IDLE_14: cutout step 14 (R94, R145). -/
  | coIdle14
  /-- CO_IDLE_15: cutout step 15 (R94, R145). -/
  | coIdle15
  /-- CO_IDLE_16: cutout step 16 (R94, R145). -/
  | coIdle16
  /-- CO_READ_CH2: cutout step 17 (R94, R149). -/
  | coReadCh2
  /-- CO_END: cutout step 18 (R94, R150). -/
  | coEnd
  /-- TXS_READY: `tx_state` code 0 (R92). -/
  | txsReady
  /-- TXS_PREAMBLE: `tx_state` code 1 (R92). -/
  | txsPreamble
  /-- TXS_DATA: `tx_state` code 2 (R92). -/
  | txsData
  /-- TXS_CUTOUT: `tx_state` code 3 (R92). -/
  | txsCutout
  /-- MODE_NO_RAILCOM: `mode` code 0 (R93). -/
  | modeNoRailcom
  /-- MODE_RAILCOM: `mode` code 1 (R93). -/
  | modeRailcom
  /-- MODE_PROGRAMMING: `mode` code 2 (R93). -/
  | modeProgramming
  /-- MODE_RESERVED_3: `mode` code 3 (R93). -/
  | modeReserved3
  /-- RC1_ADR_HIGH: 12-bit datagram, identifier 1 (R84, R170). -/
  | rc1AdrHigh (val : BitVec 8)
  /-- RC1_ADR_LOW: 12-bit datagram, identifier 2 (R84, R170). -/
  | rc1AdrLow (val : BitVec 8)
  /-- RC2_POM: 12-bit datagram, identifier 0 (R84, R180). -/
  | rc2Pom (val : BitVec 8)
  /-- RC2_ADR_HIGH: 12-bit datagram, identifier 1 (R84, R181). -/
  | rc2AdrHigh (val : BitVec 8)
  /-- RC2_ADR_LOW: 12-bit datagram, identifier 2 (R84, R182). -/
  | rc2AdrLow (val : BitVec 8)
  /-- RC2_DYN: 18-bit datagram, identifier 7 (R87, R184). -/
  | rc2Dyn (val : BitVec 8) (sub : BitVec 6)
  /-- RC2_DYN_NOSUB: 12-bit datagram, identifier 7 (R84, R184). -/
  | rc2DynNosub (val : BitVec 8)
  /-- RC2_XPOM0: 36-bit datagram, identifier 8 (R88, R185). -/
  | rc2Xpom0 (b0 b1 b2 b3 : Byte)
  /-- RC2_XPOM1: 36-bit datagram, identifier 9 (R88, R185). -/
  | rc2Xpom1 (b0 b1 b2 b3 : Byte)
  /-- RC2_XPOM2: 36-bit datagram, identifier 10 (R88, R185). -/
  | rc2Xpom2 (b0 b1 b2 b3 : Byte)
  /-- RC2_XPOM3: 36-bit datagram, identifier 11 (R88, R185). -/
  | rc2Xpom3 (b0 b1 b2 b3 : Byte)
  /-- RC2_UNKNOWN_3: 12-bit datagram, identifier 3 (R84, R186). -/
  | rc2Unknown3 (payload : BitVec 8)
  /-- RC2_UNKNOWN_4: 12-bit datagram, identifier 4 (R84, R186). -/
  | rc2Unknown4 (payload : BitVec 8)
  /-- RC2_UNKNOWN_5: 12-bit datagram, identifier 5 (R84, R186). -/
  | rc2Unknown5 (payload : BitVec 8)
  /-- RC2_UNKNOWN_6: 12-bit datagram, identifier 6 (R84, R186). -/
  | rc2Unknown6 (payload : BitVec 8)
  /-- RC2_UNKNOWN_12: 12-bit datagram, identifier 12 (R84, R186). -/
  | rc2Unknown12 (payload : BitVec 8)
  /-- RC2_UNKNOWN_13: 12-bit datagram, identifier 13 (R84, R186). -/
  | rc2Unknown13 (payload : BitVec 8)
  /-- RC2_UNKNOWN_14: 12-bit datagram, identifier 14 (R84, R186). -/
  | rc2Unknown14 (payload : BitVec 8)
  /-- RC2_UNKNOWN_15: 12-bit datagram, identifier 15 (R84, R186). -/
  | rc2Unknown15 (payload : BitVec 8)
  /-- RC_DATA_00: received byte 0xAC, symbol 0x00 (R161). -/
  | rcData00
  /-- RC_DATA_01: received byte 0xAA, symbol 0x01 (R161). -/
  | rcData01
  /-- RC_DATA_02: received byte 0xA9, symbol 0x02 (R161). -/
  | rcData02
  /-- RC_DATA_03: received byte 0xA5, symbol 0x03 (R161). -/
  | rcData03
  /-- RC_DATA_04: received byte 0xA3, symbol 0x04 (R161). -/
  | rcData04
  /-- RC_DATA_05: received byte 0xA6, symbol 0x05 (R161). -/
  | rcData05
  /-- RC_DATA_06: received byte 0x9C, symbol 0x06 (R161). -/
  | rcData06
  /-- RC_DATA_07: received byte 0x9A, symbol 0x07 (R161). -/
  | rcData07
  /-- RC_DATA_08: received byte 0x99, symbol 0x08 (R161). -/
  | rcData08
  /-- RC_DATA_09: received byte 0x95, symbol 0x09 (R161). -/
  | rcData09
  /-- RC_DATA_0A: received byte 0x93, symbol 0x0A (R161). -/
  | rcData0A
  /-- RC_DATA_0B: received byte 0x96, symbol 0x0B (R161). -/
  | rcData0B
  /-- RC_DATA_0C: received byte 0x8E, symbol 0x0C (R161). -/
  | rcData0C
  /-- RC_DATA_0D: received byte 0x8D, symbol 0x0D (R161). -/
  | rcData0D
  /-- RC_DATA_0E: received byte 0x8B, symbol 0x0E (R161). -/
  | rcData0E
  /-- RC_DATA_0F: received byte 0xB1, symbol 0x0F (R161). -/
  | rcData0F
  /-- RC_DATA_10: received byte 0xB2, symbol 0x10 (R161). -/
  | rcData10
  /-- RC_DATA_11: received byte 0xB4, symbol 0x11 (R161). -/
  | rcData11
  /-- RC_DATA_12: received byte 0xB8, symbol 0x12 (R161). -/
  | rcData12
  /-- RC_DATA_13: received byte 0x74, symbol 0x13 (R161). -/
  | rcData13
  /-- RC_DATA_14: received byte 0x72, symbol 0x14 (R161). -/
  | rcData14
  /-- RC_DATA_15: received byte 0x6C, symbol 0x15 (R161). -/
  | rcData15
  /-- RC_DATA_16: received byte 0x6A, symbol 0x16 (R161). -/
  | rcData16
  /-- RC_DATA_17: received byte 0x69, symbol 0x17 (R161). -/
  | rcData17
  /-- RC_DATA_18: received byte 0x65, symbol 0x18 (R161). -/
  | rcData18
  /-- RC_DATA_19: received byte 0x63, symbol 0x19 (R161). -/
  | rcData19
  /-- RC_DATA_1A: received byte 0x66, symbol 0x1A (R161). -/
  | rcData1A
  /-- RC_DATA_1B: received byte 0x5C, symbol 0x1B (R161). -/
  | rcData1B
  /-- RC_DATA_1C: received byte 0x5A, symbol 0x1C (R161). -/
  | rcData1C
  /-- RC_DATA_1D: received byte 0x59, symbol 0x1D (R161). -/
  | rcData1D
  /-- RC_DATA_1E: received byte 0x55, symbol 0x1E (R161). -/
  | rcData1E
  /-- RC_DATA_1F: received byte 0x53, symbol 0x1F (R161). -/
  | rcData1F
  /-- RC_DATA_20: received byte 0x56, symbol 0x20 (R161). -/
  | rcData20
  /-- RC_DATA_21: received byte 0x4E, symbol 0x21 (R161). -/
  | rcData21
  /-- RC_DATA_22: received byte 0x4D, symbol 0x22 (R161). -/
  | rcData22
  /-- RC_DATA_23: received byte 0x4B, symbol 0x23 (R161). -/
  | rcData23
  /-- RC_DATA_24: received byte 0x47, symbol 0x24 (R161). -/
  | rcData24
  /-- RC_DATA_25: received byte 0x71, symbol 0x25 (R161). -/
  | rcData25
  /-- RC_DATA_26: received byte 0xE8, symbol 0x26 (R161). -/
  | rcData26
  /-- RC_DATA_27: received byte 0xE4, symbol 0x27 (R161). -/
  | rcData27
  /-- RC_DATA_28: received byte 0xE2, symbol 0x28 (R161). -/
  | rcData28
  /-- RC_DATA_29: received byte 0xD1, symbol 0x29 (R161). -/
  | rcData29
  /-- RC_DATA_2A: received byte 0xC9, symbol 0x2A (R161). -/
  | rcData2A
  /-- RC_DATA_2B: received byte 0xC5, symbol 0x2B (R161). -/
  | rcData2B
  /-- RC_DATA_2C: received byte 0xD8, symbol 0x2C (R161). -/
  | rcData2C
  /-- RC_DATA_2D: received byte 0xD4, symbol 0x2D (R161). -/
  | rcData2D
  /-- RC_DATA_2E: received byte 0xD2, symbol 0x2E (R161). -/
  | rcData2E
  /-- RC_DATA_2F: received byte 0xCA, symbol 0x2F (R161). -/
  | rcData2F
  /-- RC_DATA_30: received byte 0xC6, symbol 0x30 (R161). -/
  | rcData30
  /-- RC_DATA_31: received byte 0xCC, symbol 0x31 (R161). -/
  | rcData31
  /-- RC_DATA_32: received byte 0x78, symbol 0x32 (R161). -/
  | rcData32
  /-- RC_DATA_33: received byte 0x17, symbol 0x33 (R161). -/
  | rcData33
  /-- RC_DATA_34: received byte 0x1B, symbol 0x34 (R161). -/
  | rcData34
  /-- RC_DATA_35: received byte 0x1D, symbol 0x35 (R161). -/
  | rcData35
  /-- RC_DATA_36: received byte 0x1E, symbol 0x36 (R161). -/
  | rcData36
  /-- RC_DATA_37: received byte 0x2E, symbol 0x37 (R161). -/
  | rcData37
  /-- RC_DATA_38: received byte 0x36, symbol 0x38 (R161). -/
  | rcData38
  /-- RC_DATA_39: received byte 0x3A, symbol 0x39 (R161). -/
  | rcData39
  /-- RC_DATA_3A: received byte 0x27, symbol 0x3A (R161). -/
  | rcData3A
  /-- RC_DATA_3B: received byte 0x2B, symbol 0x3B (R161). -/
  | rcData3B
  /-- RC_DATA_3C: received byte 0x2D, symbol 0x3C (R161). -/
  | rcData3C
  /-- RC_DATA_3D: received byte 0x35, symbol 0x3D (R161). -/
  | rcData3D
  /-- RC_DATA_3E: received byte 0x39, symbol 0x3E (R161). -/
  | rcData3E
  /-- RC_DATA_3F: received byte 0x33, symbol 0x3F (R161). -/
  | rcData3F
  /-- RC_ACK_0F: received byte 0x0F, symbol 0x40 (R162). -/
  | rcAck0F
  /-- RC_ACK_F0: received byte 0xF0, symbol 0x40 (R162). -/
  | rcAckF0
  /-- RC_ACK_F8_REMAP: received byte 0xF8, symbol 0x40 (R164). -/
  | rcAckF8Remap
  /-- RC_NACK: received byte 0x3C, symbol 0x41 (R162). -/
  | rcNack
  /-- RC_RSV1: received byte 0xE1, symbol 0x42 (R162). -/
  | rcRsv1
  /-- RC_RSV2: received byte 0xC3, symbol 0x43 (R162). -/
  | rcRsv2
  /-- RC_RSV3: received byte 0x87, symbol 0x44 (R162). -/
  | rcRsv3
  /-- RC_INVALID: a received byte that is none of the 71 others (R163). -/
  | rcInvalid (b : Byte)
  deriving DecidableEq, Repr

end Sys2Proof
end

