-- ==== Sys2Proof/WellFormed.lean ====
section
/-! DEFINITION. Which terms of `Instr` stand for a row of the table. The widths of operands are in their types. One
check is left: RC_INVALID is the row of the bytes that no other RC_BYTE row matches (30_encoding R99, 42_hamming R163). -/

namespace Sys2Proof

/-- Bytes of the RailCom code, in the order of the symbols they carry (R161, R162, R164), part 1. -/
def rcCodeBytes0 : List Byte :=
  [0xAC, 0xAA, 0xA9, 0xA5, 0xA3, 0xA6, 0x9C, 0x9A, 0x99, 0x95, 0x93, 0x96, 0x8E, 0x8D, 0x8B, 0xB1]

/-- Bytes of the RailCom code, in the order of the symbols they carry (R161, R162, R164), part 2. -/
def rcCodeBytes1 : List Byte :=
  [0xB2, 0xB4, 0xB8, 0x74, 0x72, 0x6C, 0x6A, 0x69, 0x65, 0x63, 0x66, 0x5C, 0x5A, 0x59, 0x55, 0x53]

/-- Bytes of the RailCom code, in the order of the symbols they carry (R161, R162, R164), part 3. -/
def rcCodeBytes2 : List Byte :=
  [0x56, 0x4E, 0x4D, 0x4B, 0x47, 0x71, 0xE8, 0xE4, 0xE2, 0xD1, 0xC9, 0xC5, 0xD8, 0xD4, 0xD2, 0xCA]

/-- Bytes of the RailCom code, in the order of the symbols they carry (R161, R162, R164), part 4. -/
def rcCodeBytes3 : List Byte :=
  [0xC6, 0xCC, 0x78, 0x17, 0x1B, 0x1D, 0x1E, 0x2E, 0x36, 0x3A, 0x27, 0x2B, 0x2D, 0x35, 0x39, 0x33]

/-- Bytes of the RailCom code, in the order of the symbols they carry (R161, R162, R164), part 5. -/
def rcCodeBytes4 : List Byte :=
  [0x0F, 0xF0, 0xF8, 0x3C, 0xE1, 0xC3, 0x87]

/-- The 71 received bytes that carry a symbol: 64 data values, three bytes read as ACK, NACK and three reserved ones. -/
def rcCodeBytes : List Byte :=
  rcCodeBytes0 ++ rcCodeBytes1 ++ rcCodeBytes2 ++ rcCodeBytes3 ++ rcCodeBytes4

/-- The one check on a term of `Instr`: RC_INVALID holds none of the 71 bytes that have a row of their own. -/
def Instr.wellFormed : Instr → Bool
  | .rcInvalid b => !rcCodeBytes.contains b
  | _ => true

end Sys2Proof
end

