-- ==== Sys2Proof/Decode.lean ====
section
/-! DEFINITION. The decoder: from an invocation (a name with operands, or a word of a format) to the operation, total,
rejecting by name; the encoder, written from the same tables (30_encoding R84 to R97, 42_hamming R161 to R164); and the
host's reading of a table word. -/

namespace Sys2Proof

/-! ## Operations invoked by name (R97) -/

/-- The bytes a list of numbers stands for, if each is one. -/
def decodeBytes (l : List Nat) : Option (List Byte) :=
  if l.all (fun n => decide (n < 256)) then some (l.map (BitVec.ofNat 8)) else none

/-- The numbers a list of bytes is invoked with. -/
def encodeBytes (l : List Byte) : List Nat :=
  l.map BitVec.toNat

/-- An operation without operands. -/
def decodeNullary (nm : OpName) (i : Instr) (args : List Nat) : Except DecodeError Instr :=
  match args with
  | [] => .ok i
  | _ => .error (.badOperands nm)

/-- An operation with one operand of `w` bits. -/
def decodeUnary (nm : OpName) (w : Nat) (mk : BitVec w → Instr) (args : List Nat) : Except DecodeError Instr :=
  match args with
  | [n] => if n < 2 ^ w then .ok (mk (BitVec.ofNat w n)) else .error (.badOperands nm)
  | _ => .error (.badOperands nm)

/-- Bytes as the rest of an operand list. -/
def decodeTail (nm : OpName) (mk : List Byte → Instr) (args : List Nat) : Except DecodeError Instr :=
  match decodeBytes args with
  | some bytes => .ok (mk bytes)
  | none => .error (.badOperands nm)

/-- `Ch2Decode(raw, idx)` is invoked as the index, then the received bytes (R175). -/
def decodeCh2dec (args : List Nat) : Except DecodeError Instr :=
  match args with
  | idx :: raw =>
    if idx < 2 ^ 8 then decodeTail .ch2dec (fun bytes => .ch2dec bytes (BitVec.ofNat 8 idx)) raw
    else .error (.badOperands .ch2dec)
  | _ => .error (.badOperands .ch2dec)

/-- `Assemble(A, B[])` is invoked as the address, then the payload (R210). -/
def decodeAssemble (args : List Nat) : Except DecodeError Instr :=
  match args with
  | a :: payload =>
    if a < 2 ^ 16 then decodeTail .assemble (fun bytes => .assemble (BitVec.ofNat 16 a) bytes) payload
    else .error (.badOperands .assemble)
  | _ => .error (.badOperands .assemble)

/-- `submit_packet(locoIndex, address, payload[], length)` is invoked as index, address, `length`, payload; `length` is
the number of payload bytes (R210, D27). -/
def decodeSubmit (args : List Nat) : Except DecodeError Instr :=
  match args with
  | idx :: a :: n :: payload =>
    if idx < 2 ^ 8 ∧ a < 2 ^ 16 ∧ n = payload.length then
      decodeTail .submit (fun bytes => .submit (BitVec.ofNat 8 idx) (BitVec.ofNat 16 a) bytes) payload
    else .error (.badOperands .submit)
  | _ => .error (.badOperands .submit)

/-- Format OP: the operation of a name with its operands (R97). -/
def decodeOp (nm : OpName) (args : List Nat) : Except DecodeError Instr :=
  match nm with
  | .tick => decodeNullary .tick .tick args
  | .ready => decodeNullary .ready .ready args
  | .preSlot => decodeNullary .preSlot .preSlot args
  | .dataSlot => decodeNullary .dataSlot .dataSlot args
  | .hamdec => decodeUnary .hamdec 8 .hamdec args
  | .ch1dec => decodeTail .ch1dec .ch1dec args
  | .ch2dec => decodeCh2dec args
  | .assemble => decodeAssemble args
  | .submit => decodeSubmit args
  | .setMode => decodeUnary .setMode 2 .setMode args
  | .getMode => decodeNullary .getMode .getMode args
  | .boosterOn => decodeNullary .boosterOn .boosterOn args
  | .boosterOff => decodeNullary .boosterOff .boosterOff args
  | .setCutoutInhibit => decodeUnary .setCutoutInhibit 1 .setCutoutInhibit args
  | .getRc1Addr => decodeNullary .getRc1Addr .getRc1Addr args
  | .getRc2Rate => decodeUnary .getRc2Rate 8 .getRc2Rate args
  | .getRc2Age => decodeUnary .getRc2Age 8 .getRc2Age args
  | .getCv => decodeNullary .getCv .getCv args
  | .clrCv => decodeNullary .clrCv .clrCv args
  | .getXpom => decodeUnary .getXpom 2 .getXpom args
  | .clrXpom => decodeUnary .clrXpom 2 .clrXpom args
  | .getDyn => decodeNullary .getDyn .getDyn args
  | .clrDyn => decodeNullary .clrDyn .clrDyn args
  | .getRc2Addr => decodeNullary .getRc2Addr .getRc2Addr args
  | .clrRc2Addr => decodeNullary .clrRc2Addr .clrRc2Addr args
  | .getBufBusy => decodeNullary .getBufBusy .getBufBusy args
  | .getMs => decodeNullary .getMs .getMs args
  | .rxbyte => decodeUnary .rxbyte 8 .rxbyte args

/-! ## Words of a format -/

/-- Width of a format in bits (R99). -/
def Format.width : Format → Nat
  | .cutoutStep => 5
  | .txState => 2
  | .mode => 2
  | .rcByte => 8
  | .dg12Ch1 => 12
  | .dg12Ch2 => 12
  | .dg18 => 18
  | .dg36 => 36

/-- Cutout steps (R94); 19..31 are never held. -/
def decodeCutoutStep (bits : Nat) : Except DecodeError Instr :=
  match bits with
  | 0 => .ok .coNop0
  | 1 => .ok .coForcePos
  | 2 => .ok .coAssert
  | 3 => .ok .coIdle3
  | 4 => .ok .coRxEnable
  | 5 => .ok .coRxFlush
  | 6 => .ok .coIdle6
  | 7 => .ok .coIdle7
  | 8 => .ok .coIdle8
  | 9 => .ok .coReadCh1
  | 10 => .ok .coIdle10
  | 11 => .ok .coIdle11
  | 12 => .ok .coIdle12
  | 13 => .ok .coIdle13
  | 14 => .ok .coIdle14
  | 15 => .ok .coIdle15
  | 16 => .ok .coIdle16
  | 17 => .ok .coReadCh2
  | 18 => .ok .coEnd
  | _ => .error (.reservedCode .cutoutStep bits)

/-- `tx_state` codes (R92). -/
def decodeTxState (bits : Nat) : Except DecodeError Instr :=
  match bits with
  | 0 => .ok .txsReady
  | 1 => .ok .txsPreamble
  | 2 => .ok .txsData
  | 3 => .ok .txsCutout
  | _ => .error (.reservedCode .txState bits)

/-- `mode` codes (R93); 3 is reserved and has a row of its own. -/
def decodeMode (bits : Nat) : Except DecodeError Instr :=
  match bits with
  | 0 => .ok .modeNoRailcom
  | 1 => .ok .modeRailcom
  | 2 => .ok .modeProgramming
  | 3 => .ok .modeReserved3
  | _ => .error (.reservedCode .mode bits)

/-- RC_BYTE rows, part 1 (R161, R162, R164): received byte and row. -/
def rcRows0 : List (Nat × Instr) :=
  [(0xAC, .rcData00), (0xAA, .rcData01), (0xA9, .rcData02), (0xA5, .rcData03),
   (0xA3, .rcData04), (0xA6, .rcData05), (0x9C, .rcData06), (0x9A, .rcData07),
   (0x99, .rcData08), (0x95, .rcData09), (0x93, .rcData0A), (0x96, .rcData0B),
   (0x8E, .rcData0C), (0x8D, .rcData0D), (0x8B, .rcData0E), (0xB1, .rcData0F)]

/-- RC_BYTE rows, part 2 (R161, R162, R164): received byte and row. -/
def rcRows1 : List (Nat × Instr) :=
  [(0xB2, .rcData10), (0xB4, .rcData11), (0xB8, .rcData12), (0x74, .rcData13),
   (0x72, .rcData14), (0x6C, .rcData15), (0x6A, .rcData16), (0x69, .rcData17),
   (0x65, .rcData18), (0x63, .rcData19), (0x66, .rcData1A), (0x5C, .rcData1B),
   (0x5A, .rcData1C), (0x59, .rcData1D), (0x55, .rcData1E), (0x53, .rcData1F)]

/-- RC_BYTE rows, part 3 (R161, R162, R164): received byte and row. -/
def rcRows2 : List (Nat × Instr) :=
  [(0x56, .rcData20), (0x4E, .rcData21), (0x4D, .rcData22), (0x4B, .rcData23),
   (0x47, .rcData24), (0x71, .rcData25), (0xE8, .rcData26), (0xE4, .rcData27),
   (0xE2, .rcData28), (0xD1, .rcData29), (0xC9, .rcData2A), (0xC5, .rcData2B),
   (0xD8, .rcData2C), (0xD4, .rcData2D), (0xD2, .rcData2E), (0xCA, .rcData2F)]

/-- RC_BYTE rows, part 4 (R161, R162, R164): received byte and row. -/
def rcRows3 : List (Nat × Instr) :=
  [(0xC6, .rcData30), (0xCC, .rcData31), (0x78, .rcData32), (0x17, .rcData33),
   (0x1B, .rcData34), (0x1D, .rcData35), (0x1E, .rcData36), (0x2E, .rcData37),
   (0x36, .rcData38), (0x3A, .rcData39), (0x27, .rcData3A), (0x2B, .rcData3B),
   (0x2D, .rcData3C), (0x35, .rcData3D), (0x39, .rcData3E), (0x33, .rcData3F)]

/-- RC_BYTE rows, part 5 (R161, R162, R164): received byte and row. -/
def rcRows4 : List (Nat × Instr) :=
  [(0x0F, .rcAck0F), (0xF0, .rcAckF0), (0xF8, .rcAckF8Remap), (0x3C, .rcNack),
   (0xE1, .rcRsv1), (0xC3, .rcRsv2), (0x87, .rcRsv3)]

/-- The 71 RC_BYTE rows with a byte of their own. -/
def rcRows : List (Nat × Instr) :=
  rcRows0 ++ rcRows1 ++ rcRows2 ++ rcRows3 ++ rcRows4

/-- A received byte: its row, or RC_INVALID (R163). -/
def decodeRcByte (bits : Nat) : Except DecodeError Instr :=
  match rcRows.lookup bits with
  | some i => .ok i
  | none => .ok (.rcInvalid (BitVec.ofNat 8 bits))

/-- DG12 on channel 1: identifier `bits[11:8]`, data byte `bits[7:0]`; ids 1 and 2 are address halves, the others no
operation (R84, R170). -/
def decodeDg12Ch1 (bits : Nat) : Except DecodeError Instr :=
  match bits / 2 ^ 8 with
  | 1 => .ok (.rc1AdrHigh (BitVec.ofNat 8 bits))
  | 2 => .ok (.rc1AdrLow (BitVec.ofNat 8 bits))
  | _ => .error (.reservedCode .dg12Ch1 bits)

/-- DG12 on channel 2 (R84, R86). Identifiers 8..11 carry six symbols and are no 12-bit datagram. -/
def decodeDg12Ch2 (bits : Nat) : Except DecodeError Instr :=
  match bits / 2 ^ 8 with
  | 0 => .ok (.rc2Pom (BitVec.ofNat 8 bits))
  | 1 => .ok (.rc2AdrHigh (BitVec.ofNat 8 bits))
  | 2 => .ok (.rc2AdrLow (BitVec.ofNat 8 bits))
  | 7 => .ok (.rc2DynNosub (BitVec.ofNat 8 bits))
  | 3 => .ok (.rc2Unknown3 (BitVec.ofNat 8 bits))
  | 4 => .ok (.rc2Unknown4 (BitVec.ofNat 8 bits))
  | 5 => .ok (.rc2Unknown5 (BitVec.ofNat 8 bits))
  | 6 => .ok (.rc2Unknown6 (BitVec.ofNat 8 bits))
  | 12 => .ok (.rc2Unknown12 (BitVec.ofNat 8 bits))
  | 13 => .ok (.rc2Unknown13 (BitVec.ofNat 8 bits))
  | 14 => .ok (.rc2Unknown14 (BitVec.ofNat 8 bits))
  | 15 => .ok (.rc2Unknown15 (BitVec.ofNat 8 bits))
  | _ => .error (.reservedCode .dg12Ch2 bits)

/-- DG18: identifier `bits[17:14]` = 7, value `bits[13:6]`, sub-index `bits[5:0]` (R87). -/
def decodeDg18 (bits : Nat) : Except DecodeError Instr :=
  match bits / 2 ^ 14 with
  | 7 => .ok (.rc2Dyn (BitVec.ofNat 8 (bits / 2 ^ 6)) (BitVec.ofNat 6 bits))
  | _ => .error (.reservedCode .dg18 bits)

/-- DG36: identifier `bits[35:32]` in 8..11, then the four payload bytes, `B0` most significant (R88). -/
def decodeDg36 (bits : Nat) : Except DecodeError Instr :=
  let b0 := BitVec.ofNat 8 (bits / 2 ^ 24)
  let b1 := BitVec.ofNat 8 (bits / 2 ^ 16)
  let b2 := BitVec.ofNat 8 (bits / 2 ^ 8)
  let b3 := BitVec.ofNat 8 bits
  match bits / 2 ^ 32 with
  | 8 => .ok (.rc2Xpom0 b0 b1 b2 b3)
  | 9 => .ok (.rc2Xpom1 b0 b1 b2 b3)
  | 10 => .ok (.rc2Xpom2 b0 b1 b2 b3)
  | 11 => .ok (.rc2Xpom3 b0 b1 b2 b3)
  | _ => .error (.reservedCode .dg36 bits)

/-- A word of a format, rejected when it has more bits than the format. -/
def decodeWord (fmt : Format) (bits : Nat) : Except DecodeError Instr :=
  if 2 ^ fmt.width ≤ bits then .error (.wordTooWide fmt bits)
  else
    match fmt with
    | .cutoutStep => decodeCutoutStep bits
    | .txState => decodeTxState bits
    | .mode => decodeMode bits
    | .rcByte => decodeRcByte bits
    | .dg12Ch1 => decodeDg12Ch1 bits
    | .dg12Ch2 => decodeDg12Ch2 bits
    | .dg18 => decodeDg18 bits
    | .dg36 => decodeDg36 bits

/-- The decoder: total, rejecting by name. -/
def decode : Invocation → Except DecodeError Instr
  | .op nm args => decodeOp nm args
  | .word fmt bits => decodeWord fmt bits

/-! ## The encoder -/

/-- A 12-bit datagram (R84). -/
def encodeDg12 (id : Nat) (val : BitVec 8) : Nat :=
  id * 2 ^ 8 + val.toNat

/-- An 18-bit datagram (R87). -/
def encodeDg18 (id : Nat) (val : BitVec 8) (sub : BitVec 6) : Nat :=
  (id * 2 ^ 8 + val.toNat) * 2 ^ 6 + sub.toNat

/-- A 36-bit datagram (R88). -/
def encodeDg36 (id : Nat) (b0 b1 b2 b3 : Byte) : Nat :=
  (((id * 2 ^ 8 + b0.toNat) * 2 ^ 8 + b1.toNat) * 2 ^ 8 + b2.toNat) * 2 ^ 8 + b3.toNat

/-- The invocation that stands for an operation. -/
def encode (i : Instr) : Invocation :=
  match i with
  | .tick => .op .tick []
  | .ready => .op .ready []
  | .preSlot => .op .preSlot []
  | .dataSlot => .op .dataSlot []
  | .hamdec b => .op .hamdec [b.toNat]
  | .ch1dec raw => .op .ch1dec (encodeBytes raw)
  | .ch2dec raw idx => .op .ch2dec (idx.toNat :: encodeBytes raw)
  | .assemble a payload => .op .assemble (a.toNat :: encodeBytes payload)
  | .submit idx a payload => .op .submit (idx.toNat :: a.toNat :: payload.length :: encodeBytes payload)
  | .setMode m => .op .setMode [m.toNat]
  | .getMode => .op .getMode []
  | .boosterOn => .op .boosterOn []
  | .boosterOff => .op .boosterOff []
  | .setCutoutInhibit v => .op .setCutoutInhibit [v.toNat]
  | .getRc1Addr => .op .getRc1Addr []
  | .getRc2Rate idx => .op .getRc2Rate [idx.toNat]
  | .getRc2Age idx => .op .getRc2Age [idx.toNat]
  | .getCv => .op .getCv []
  | .clrCv => .op .clrCv []
  | .getXpom q => .op .getXpom [q.toNat]
  | .clrXpom q => .op .clrXpom [q.toNat]
  | .getDyn => .op .getDyn []
  | .clrDyn => .op .clrDyn []
  | .getRc2Addr => .op .getRc2Addr []
  | .clrRc2Addr => .op .clrRc2Addr []
  | .getBufBusy => .op .getBufBusy []
  | .getMs => .op .getMs []
  | .rxbyte b => .op .rxbyte [b.toNat]
  | .coNop0 => .word .cutoutStep 0
  | .coForcePos => .word .cutoutStep 1
  | .coAssert => .word .cutoutStep 2
  | .coIdle3 => .word .cutoutStep 3
  | .coRxEnable => .word .cutoutStep 4
  | .coRxFlush => .word .cutoutStep 5
  | .coIdle6 => .word .cutoutStep 6
  | .coIdle7 => .word .cutoutStep 7
  | .coIdle8 => .word .cutoutStep 8
  | .coReadCh1 => .word .cutoutStep 9
  | .coIdle10 => .word .cutoutStep 10
  | .coIdle11 => .word .cutoutStep 11
  | .coIdle12 => .word .cutoutStep 12
  | .coIdle13 => .word .cutoutStep 13
  | .coIdle14 => .word .cutoutStep 14
  | .coIdle15 => .word .cutoutStep 15
  | .coIdle16 => .word .cutoutStep 16
  | .coReadCh2 => .word .cutoutStep 17
  | .coEnd => .word .cutoutStep 18
  | .txsReady => .word .txState 0
  | .txsPreamble => .word .txState 1
  | .txsData => .word .txState 2
  | .txsCutout => .word .txState 3
  | .modeNoRailcom => .word .mode 0
  | .modeRailcom => .word .mode 1
  | .modeProgramming => .word .mode 2
  | .modeReserved3 => .word .mode 3
  | .rc1AdrHigh val => .word .dg12Ch1 (encodeDg12 1 val)
  | .rc1AdrLow val => .word .dg12Ch1 (encodeDg12 2 val)
  | .rc2Pom val => .word .dg12Ch2 (encodeDg12 0 val)
  | .rc2AdrHigh val => .word .dg12Ch2 (encodeDg12 1 val)
  | .rc2AdrLow val => .word .dg12Ch2 (encodeDg12 2 val)
  | .rc2Dyn val sub => .word .dg18 (encodeDg18 7 val sub)
  | .rc2DynNosub val => .word .dg12Ch2 (encodeDg12 7 val)
  | .rc2Xpom0 b0 b1 b2 b3 => .word .dg36 (encodeDg36 8 b0 b1 b2 b3)
  | .rc2Xpom1 b0 b1 b2 b3 => .word .dg36 (encodeDg36 9 b0 b1 b2 b3)
  | .rc2Xpom2 b0 b1 b2 b3 => .word .dg36 (encodeDg36 10 b0 b1 b2 b3)
  | .rc2Xpom3 b0 b1 b2 b3 => .word .dg36 (encodeDg36 11 b0 b1 b2 b3)
  | .rc2Unknown3 payload => .word .dg12Ch2 (encodeDg12 3 payload)
  | .rc2Unknown4 payload => .word .dg12Ch2 (encodeDg12 4 payload)
  | .rc2Unknown5 payload => .word .dg12Ch2 (encodeDg12 5 payload)
  | .rc2Unknown6 payload => .word .dg12Ch2 (encodeDg12 6 payload)
  | .rc2Unknown12 payload => .word .dg12Ch2 (encodeDg12 12 payload)
  | .rc2Unknown13 payload => .word .dg12Ch2 (encodeDg12 13 payload)
  | .rc2Unknown14 payload => .word .dg12Ch2 (encodeDg12 14 payload)
  | .rc2Unknown15 payload => .word .dg12Ch2 (encodeDg12 15 payload)
  | .rcData00 => .word .rcByte 0xAC
  | .rcData01 => .word .rcByte 0xAA
  | .rcData02 => .word .rcByte 0xA9
  | .rcData03 => .word .rcByte 0xA5
  | .rcData04 => .word .rcByte 0xA3
  | .rcData05 => .word .rcByte 0xA6
  | .rcData06 => .word .rcByte 0x9C
  | .rcData07 => .word .rcByte 0x9A
  | .rcData08 => .word .rcByte 0x99
  | .rcData09 => .word .rcByte 0x95
  | .rcData0A => .word .rcByte 0x93
  | .rcData0B => .word .rcByte 0x96
  | .rcData0C => .word .rcByte 0x8E
  | .rcData0D => .word .rcByte 0x8D
  | .rcData0E => .word .rcByte 0x8B
  | .rcData0F => .word .rcByte 0xB1
  | .rcData10 => .word .rcByte 0xB2
  | .rcData11 => .word .rcByte 0xB4
  | .rcData12 => .word .rcByte 0xB8
  | .rcData13 => .word .rcByte 0x74
  | .rcData14 => .word .rcByte 0x72
  | .rcData15 => .word .rcByte 0x6C
  | .rcData16 => .word .rcByte 0x6A
  | .rcData17 => .word .rcByte 0x69
  | .rcData18 => .word .rcByte 0x65
  | .rcData19 => .word .rcByte 0x63
  | .rcData1A => .word .rcByte 0x66
  | .rcData1B => .word .rcByte 0x5C
  | .rcData1C => .word .rcByte 0x5A
  | .rcData1D => .word .rcByte 0x59
  | .rcData1E => .word .rcByte 0x55
  | .rcData1F => .word .rcByte 0x53
  | .rcData20 => .word .rcByte 0x56
  | .rcData21 => .word .rcByte 0x4E
  | .rcData22 => .word .rcByte 0x4D
  | .rcData23 => .word .rcByte 0x4B
  | .rcData24 => .word .rcByte 0x47
  | .rcData25 => .word .rcByte 0x71
  | .rcData26 => .word .rcByte 0xE8
  | .rcData27 => .word .rcByte 0xE4
  | .rcData28 => .word .rcByte 0xE2
  | .rcData29 => .word .rcByte 0xD1
  | .rcData2A => .word .rcByte 0xC9
  | .rcData2B => .word .rcByte 0xC5
  | .rcData2C => .word .rcByte 0xD8
  | .rcData2D => .word .rcByte 0xD4
  | .rcData2E => .word .rcByte 0xD2
  | .rcData2F => .word .rcByte 0xCA
  | .rcData30 => .word .rcByte 0xC6
  | .rcData31 => .word .rcByte 0xCC
  | .rcData32 => .word .rcByte 0x78
  | .rcData33 => .word .rcByte 0x17
  | .rcData34 => .word .rcByte 0x1B
  | .rcData35 => .word .rcByte 0x1D
  | .rcData36 => .word .rcByte 0x1E
  | .rcData37 => .word .rcByte 0x2E
  | .rcData38 => .word .rcByte 0x36
  | .rcData39 => .word .rcByte 0x3A
  | .rcData3A => .word .rcByte 0x27
  | .rcData3B => .word .rcByte 0x2B
  | .rcData3C => .word .rcByte 0x2D
  | .rcData3D => .word .rcByte 0x35
  | .rcData3E => .word .rcByte 0x39
  | .rcData3F => .word .rcByte 0x33
  | .rcAck0F => .word .rcByte 0x0F
  | .rcAckF0 => .word .rcByte 0xF0
  | .rcAckF8Remap => .word .rcByte 0xF8
  | .rcNack => .word .rcByte 0x3C
  | .rcRsv1 => .word .rcByte 0xE1
  | .rcRsv2 => .word .rcByte 0xC3
  | .rcRsv3 => .word .rcByte 0x87
  | .rcInvalid b => .word .rcByte b.toNat

/-- An invocation is inside the bounds of its form: a word has no more bits than its format (R99). -/
def Invocation.fits : Invocation → Bool
  | .op _ _ => true
  | .word fmt bits => decide (bits < 2 ^ fmt.width)

/-! ## The host's reading of a table word -/

/-- The invocation that a bare table word stands for. The table's formats share bit patterns and on the hardware the
context tells them apart, so a bare word of a width is read in ONE of the formats of that width (log 5): eight bits as a
cutout step where the value is one, else as a received byte; twelve (sixteen in whole bytes) as a channel-2 datagram. -/
def tableInvocation (nbits w : Nat) : Invocation :=
  if nbits ≤ 2 then .word .mode w
  else if nbits ≤ 5 then .word .cutoutStep w
  else if nbits ≤ 8 then (if w < 19 then .word .cutoutStep w else .word .rcByte w)
  else if nbits ≤ 16 then .word .dg12Ch2 w
  else if nbits ≤ 24 then .word .dg18 w
  else .word .dg36 w

/-- The instruction the decoder reads from a table word, bit 0 the least significant; none where it refuses. -/
def decodeTableWord (nbits w : Nat) : Option Instr :=
  match decode (tableInvocation nbits w) with
  | .ok i => some i
  | .error _ => none

end Sys2Proof
end

