-- ==== Sys2Proof/Machine/State.lean ====
section
/-! DEFINITION. The state of DCCCORE as plain data: every register, table and queue the spec names (10_state R20 to
R41), grouped as the spec groups them, the ghost log it allows (00_scope R13), and the model's own fields; the reset
state (R41, R310); the reasons a step can stop. -/

namespace Sys2Proof.Machine

/-! ## Enumerations -/

/-- `tx_state` (10_state R24, codes 30_encoding R92). All four 2-bit codes are states. -/
inductive TxState where
  /-- Code 0. -/
  | ready
  /-- Code 1. -/
  | preamble
  /-- Code 2. -/
  | data
  /-- Code 3. -/
  | cutout
  deriving DecidableEq, Repr

/-- `mode` (10_state R28, codes 30_encoding R93). Code 3 is reserved and never held. -/
inductive Mode where
  /-- Code 0. -/
  | noRailcom
  /-- Code 1. -/
  | railcom
  /-- Code 2. -/
  | programming
  deriving DecidableEq, Repr

/-- The names of the faults a rule raises (60_exceptions R280). None of them transfers control; none has a code. -/
inductive Raised where
  /-- INVALID symbol, or on channel 1 a sentinel: the frame is discarded (43_railcom R170, R177). -/
  | badSymbol (ch : Channel)
  /-- Malformed frame length: the frame is discarded (R170, R176, R179, R185). -/
  | badLength (ch : Channel) (n : Nat)
  /-- Unrecognised identifier: no value is stored (R186). -/
  | unknownId (id : Nat)
  /-- SUBMIT with a frame length outside 2..9 (44_packet_buffer R217). -/
  | badFrameLength
  /-- SET_MODE with code 3 (45_control R230). -/
  | badMode
  /-- A missed interrupt deadline: not detectable, raised by nothing (60_exceptions R283). -/
  | timingFault
  deriving DecidableEq, Repr

/-! ## Records -/

/-- Transmitter frame copy, sequencer position, preamble counters and sequencer flags (10_state R23 to R26). -/
structure Tx where
  /-- `tx_len`: bytes of the frame being sent (R23). -/
  txLen : BitVec 4
  /-- `tx_bytes[0..8]`: the frame being sent, byte 0 first on the wire (R23). -/
  txBytes : Vector Byte 9
  /-- `tx_loco_idx`: loco index submitted with the frame (R23). -/
  txLocoIdx : BitVec 8
  /-- `tx_state` (R24). -/
  txState : TxState
  /-- `byte_idx`: byte being sent (R24). -/
  byteIdx : BitVec 4
  /-- `bit_idx`: 0..7 a data bit, 8 the bit after the byte (R24). -/
  bitIdx : BitVec 4
  /-- `half_sel`: which half of the current bit the next slot starts (R24). -/
  halfSel : Bool
  /-- `cutout_step` (R24, R94). -/
  cutoutStep : BitVec 5
  /-- `pre_cnt`: one-bits of the current preamble still to be completed (R25). -/
  preCnt : BitVec 5
  /-- `preamble_len`: length of the next preamble (R25). -/
  preambleLen : BitVec 5
  /-- `half_tick`: the half-tick divider (R26). -/
  halfTick : Bool
  /-- `long_pulse`: the long-pulse flag (R26). -/
  longPulse : Bool
  deriving DecidableEq, Repr

/-- Output registers, which drive the ports of the same names (10_state R21, R27). -/
structure Out where
  /-- `track_pol`: true is POS. -/
  trackPol : Bool
  /-- `track_en`: booster output enabled. -/
  trackEn : Bool
  /-- `cutout_act`: cutout asserted. -/
  cutoutAct : Bool
  /-- `rx_en`: RailCom receiver enabled. -/
  rxEn : Bool
  /-- `flow_continue`: one-tick pulse to the transport layer. -/
  flowContinue : Bool
  deriving DecidableEq, Repr

/-- Control registers, written by the foreground only (10_state R28). -/
structure Ctl where
  /-- `mode`. -/
  mode : Mode
  /-- `booster_on`. -/
  boosterOn : Bool
  /-- `cutout_inhibit`. -/
  cutoutInhibit : Bool
  deriving DecidableEq, Repr

/-- The packet slot BUF (10_state R29). -/
structure Slot where
  /-- `buf_len`: 0 means empty. -/
  bufLen : BitVec 4
  /-- `buf_bytes[0..8]`. -/
  bufBytes : Vector Byte 9
  /-- `buf_loco_idx`. -/
  bufLocoIdx : BitVec 8
  deriving DecidableEq, Repr

/-- Time (10_state R30). -/
structure Time where
  /-- `ms`. -/
  ms : BitVec 32
  /-- `ms_div`, the tick prescaler of `ms`. -/
  msDiv : BitVec 16
  deriving DecidableEq, Repr

/-- Channel-1 record (10_state R31). -/
structure Rc1 where
  /-- `rc1_adr_hi`. -/
  adrHi : BitVec 8
  /-- `rc1_adr_lo`. -/
  adrLo : BitVec 8
  /-- `rc1_hi_valid`. -/
  hiValid : Bool
  /-- `rc1_lo_valid`. -/
  loValid : Bool
  /-- `rc1_addr`. -/
  addr : BitVec 14
  /-- `rc1_addr_valid`. -/
  addrValid : Bool
  /-- `rc1_ms`. -/
  stamp : BitVec 32
  deriving DecidableEq, Repr

/-- Channel-2 records: address (10_state R32), CV (R33), dynamic (R34). -/
structure Rc2 where
  /-- `rc2_adr_hi`. -/
  adrHi : BitVec 8
  /-- `rc2_adr_lo`. -/
  adrLo : BitVec 8
  /-- `rc2_hi_valid`. -/
  hiValid : Bool
  /-- `rc2_lo_valid`. -/
  loValid : Bool
  /-- `rc2_addr`. -/
  addr : BitVec 14
  /-- `rc2_addr_valid`. -/
  addrValid : Bool
  /-- `rc2_cv`. -/
  cv : BitVec 8
  /-- `rc2_cv_valid`. -/
  cvValid : Bool
  /-- `rc2_dyn_val`. -/
  dynVal : BitVec 8
  /-- `rc2_dyn_sub`. -/
  dynSub : BitVec 6
  /-- `rc2_dyn_valid`. -/
  dynValid : Bool
  /-- `rc2_dyn_has_sub`. -/
  dynHasSub : Bool
  deriving DecidableEq, Repr

/-- One slot of the XPOM table: `xpom_data[q][0..3]` and `xpom_valid[q]` (10_state R35). -/
structure XpomSlot where
  b0 : Byte
  b1 : Byte
  b2 : Byte
  b3 : Byte
  valid : Bool
  deriving DecidableEq, Repr

/-- One entry of the statistics table (10_state R36). -/
structure StatEntry where
  /-- `cmd_cnt[0]`. -/
  cmd0 : BitVec 6
  /-- `cmd_cnt[1]`. -/
  cmd1 : BitVec 6
  /-- `rsp_cnt[0]`. -/
  rsp0 : BitVec 6
  /-- `rsp_cnt[1]`. -/
  rsp1 : BitVec 6
  /-- `active`: the window slot being filled, true is slot 1. -/
  active : Bool
  /-- `last_cmd_ms`. -/
  lastCmdMs : BitVec 32
  /-- `last_rsp_ms`. -/
  lastRspMs : BitVec 32
  deriving DecidableEq, Repr

/-- The all-zero entry: what reset (R41) and StatReset (43_railcom R194) leave. -/
def StatEntry.zero : StatEntry := ⟨0, 0, 0, 0, false, 0, 0⟩

/-- An indexed table kept sparsely: (index, entry) pairs, indices strictly rising, no entry equal to what an unlisted
index reads as (log 15). -/
abbrev Memory (α : Type) := List (Nat × α)

/-! ## The model's own fields -/

/-- What the foreground command port answered last. The spec fixes no signal-level protocol for it (10_state R21) nor
how a status reaches the caller (60_exceptions R282): log 6. -/
inductive Response where
  /-- An operation that returns nothing has run. -/
  | done
  /-- The operation was refused with this status (R282). -/
  | status (f : Raised)
  /-- GET_MODE: the code of `mode` (R231). -/
  | mode (code : BitVec 2)
  /-- GET_RC1_ADDR: `(valid, addr)` (R235). -/
  | rc1Addr (valid : Bool) (addr : BitVec 14)
  /-- GET_RC2_RATE (R236). -/
  | rate (percent : BitVec 8)
  /-- GET_RC2_AGE (R237). -/
  | age (ms : BitVec 32)
  /-- GET_CV: `(rc2_cv_valid, rc2_cv)` (R238). -/
  | cv (valid : Bool) (value : BitVec 8)
  /-- GET_XPOM: flag and four data bytes (R240). -/
  | xpom (valid : Bool) (b0 b1 b2 b3 : Byte)
  /-- GET_DYN: `(rc2_dyn_valid, rc2_dyn_val, rc2_dyn_has_sub, rc2_dyn_sub)` (R242). -/
  | dyn (valid : Bool) (value : BitVec 8) (hasSub : Bool) (sub : BitVec 6)
  /-- GET_RC2_ADDR: `(rc2_addr_valid, rc2_addr)` (R244). -/
  | rc2Addr (valid : Bool) (addr : BitVec 14)
  /-- GET_BUF_BUSY (R246). -/
  | busy (flag : Bool)
  /-- GET_MS (R247). -/
  | ms (value : BitVec 32)
  /-- HAMDEC and the RC_BYTE rows: the symbol (R160). -/
  | symbol (sym : BitVec 8)
  /-- ASSEMBLE: the frame; its length is the list's (R210). -/
  | frame (bytes : List Byte)
  /-- The request names no operation, or has an operand outside its width: no register changes, a status is all there is
  (60_exceptions R282, R287; log 28). -/
  | rejected (e : DecodeError)
  /-- The foreground port does not offer the operation: no register changes (60_exceptions R294; log 31). -/
  | notOffered
  deriving DecidableEq, Repr

/-- One entry of the order in which the agents step (00_scope R7, 20_memory R72, R73): log 2. -/
inductive Turn where
  /-- A `tick` strobe: the TICK agent steps. -/
  | tick
  /-- The foreground steps: it runs the first of its operations, unless that one is held. -/
  | fg
  /-- The receiver environment delivers a byte (R67). -/
  | rx (b : Byte)
  /-- A cycle with `rst` = 1 (70_reset R310). -/
  | rst
  deriving DecidableEq, Repr

/-! ## The state -/

/-- The state of the machine. -/
structure State where
  /-- Transmitter (R23 to R26). -/
  tx : Tx
  /-- Output registers (R27). -/
  out : Out
  /-- Control registers (R28). -/
  ctl : Ctl
  /-- Packet slot (R29). -/
  buf : Slot
  /-- Time (R30). -/
  time : Time
  /-- Channel-1 record (R31). -/
  rc1 : Rc1
  /-- Channel-2 records (R32 to R34). -/
  rc2 : Rc2
  /-- XPOM table (R35). -/
  xpom : Vector XpomSlot 4
  /-- Statistics table (R36). -/
  stat : Memory StatEntry
  /-- Loco-address table (R37). -/
  locoAddr : Memory (BitVec 16)
  /-- Receive FIFO, oldest byte first (R38). -/
  rxFifo : List Byte
  /-- Ghost log of raised faults, newest first (00_scope R13, 60_exceptions R280): log 7. -/
  raised : List Raised
  /-- The open parameters (R9): log 1. -/
  cfg : Config
  /-- The model's own: last answer of the foreground port, log 6. -/
  response : Option Response
  /-- The model's own: an operation invoked directly, log 4. -/
  opPort : Option Invocation
  /-- The model's own: which agent steps next; when empty, TICK: log 2. -/
  turns : List Turn
  /-- The model's own: the foreground's operations not yet run, in program order: log 3. -/
  fgQueue : List Invocation
  deriving DecidableEq, Repr

/-! ## Reset (10_state R41) -/

/-- `tx_*`, position and sequencer flags after `rst` (R41). -/
def Tx.reset : Tx where
  txLen := 0
  txBytes := Vector.replicate 9 0
  txLocoIdx := locoNone
  txState := .ready
  byteIdx := 0
  bitIdx := 0
  halfSel := false
  cutoutStep := 0
  preCnt := 0
  preambleLen := preNorc
  halfTick := false
  longPulse := false

/-- Output registers after `rst` (R41). -/
def Out.reset : Out := ⟨false, false, false, false, false⟩

/-- Control registers after `rst` (R41). -/
def Ctl.reset : Ctl := ⟨.noRailcom, false, false⟩

/-- The packet slot after `rst` (R41). -/
def Slot.reset : Slot := ⟨0, Vector.replicate 9 0, locoNone⟩

/-- Time after `rst` (R41). -/
def Time.reset : Time := ⟨0, 0⟩

/-- Channel-1 record after `rst` (R41). -/
def Rc1.reset : Rc1 := ⟨0, 0, false, false, 0, false, 0⟩

/-- Channel-2 records after `rst` (R41). -/
def Rc2.reset : Rc2 := ⟨0, 0, false, false, 0, false, 0, false, 0, 0, false, false⟩

/-- An XPOM slot after `rst` (R41). -/
def XpomSlot.reset : XpomSlot := ⟨0, 0, 0, 0, false⟩

/-- The state after `rst` with given parameters, which reset does not touch (R41, 70_reset R313). The tables list
nothing: every `stat[i]` is zero and every `loco_addr[i]` is 0xFFFF. -/
def State.resetWith (cfg : Config) : State where
  tx := Tx.reset
  out := Out.reset
  ctl := Ctl.reset
  buf := Slot.reset
  time := Time.reset
  rc1 := Rc1.reset
  rc2 := Rc2.reset
  xpom := Vector.replicate 4 XpomSlot.reset
  stat := []
  locoAddr := []
  rxFifo := []
  raised := []
  cfg := cfg
  response := none
  opPort := none
  turns := []
  fgQueue := []

/-- The machine right after reset, with the parameter values the spec suggests (R9, R41, log 1, log 8). -/
def State.reset : State := State.resetWith Config.suggested

/-! ## Updates: one per field -/

def State.setTx (s : State) (v : Tx) : State := { s with tx := v }
def State.setOut (s : State) (v : Out) : State := { s with out := v }
def State.setCtl (s : State) (v : Ctl) : State := { s with ctl := v }
def State.setBuf (s : State) (v : Slot) : State := { s with buf := v }
def State.setTime (s : State) (v : Time) : State := { s with time := v }
def State.setRc1 (s : State) (v : Rc1) : State := { s with rc1 := v }
def State.setRc2 (s : State) (v : Rc2) : State := { s with rc2 := v }
def State.setXpom (s : State) (v : Vector XpomSlot 4) : State := { s with xpom := v }
def State.setStat (s : State) (v : Memory StatEntry) : State := { s with stat := v }
def State.setLocoAddr (s : State) (v : Memory (BitVec 16)) : State := { s with locoAddr := v }
def State.setRxFifo (s : State) (v : List Byte) : State := { s with rxFifo := v }
def State.setRaised (s : State) (v : List Raised) : State := { s with raised := v }
def State.setResponse (s : State) (v : Option Response) : State := { s with response := v }
def State.setOpPort (s : State) (v : Option Invocation) : State := { s with opPort := v }
def State.setTurns (s : State) (v : List Turn) : State := { s with turns := v }
def State.setFgQueue (s : State) (v : List Invocation) : State := { s with fgQueue := v }

/-! ## Why a step stops -/

/-- Faults that stop the machine: none. No operation of DCCCORE traps and every step of every agent completes
(60_exceptions R287); the faults of R280 are absorbed in the step that meets them (`Raised`). So the type has no
constructor, and that a step faults cannot be said of any state. Safe. -/
inductive Fault
  deriving DecidableEq, Repr

/-- Refusals. None is raised: every instruction has its meaning, no meaning refuses, and a request that is no operation
is answered in a next state (60_exceptions R287; log 28). -/
inductive Refusal where
  /-- An instruction without a meaning. Nothing raises it: no arm is without one. Safe. -/
  | notModelled (mnemonic : String)
  deriving DecidableEq, Repr

/-- The outcome of a meaning. -/
abbrev Result := Host.Outcome State Fault Refusal

end Sys2Proof.Machine
end

