-- ==== Sys2Proof/Machine/Ops.lean ====
section
/-! DEFINITION. Named operations over the tables, the frame stores, the receive FIFO and the flags of a fault.

TAKING AN EXCEPTION: DCCCORE has no trap mechanism: no cause register, no vector, no saved state and no return
(60_exceptions, opening, R287, R291 to R293). The one shared operation in its place is `raise` (00_scope R13): it names
the fault in the ghost log, writes no register and transfers no control; the step goes on with what the rule says. -/

namespace Sys2Proof.Machine

/-! ## Sparse tables (log 15) -/

/-- The canonical form: indices strictly rising, no entry equal to what an unlisted index reads as. -/
abbrev Memory.wf {α : Type} [DecidableEq α] (dflt : α) (m : Memory α) : Prop :=
  m.Pairwise (fun p q => p.1 < q.1) ∧ ∀ p ∈ m, p.2 ≠ dflt

/-- Reading entry `i`; an unlisted index reads as `dflt`. -/
def Memory.read {α : Type} (dflt : α) : Memory α → Nat → α
  | [], _ => dflt
  | (j, v) :: m, i => if j = i then v else Memory.read dflt m i

/-- Writing entry `i`, keeping the canonical form: the default value is not listed. -/
def Memory.write {α : Type} [DecidableEq α] (dflt : α) : Memory α → Nat → α → Memory α
  | [], i, v => if v = dflt then [] else [(i, v)]
  | (j, w) :: m, i, v =>
    if i < j then (if v = dflt then (j, w) :: m else (i, v) :: (j, w) :: m)
    else if i = j then (if v = dflt then m else (i, v) :: m)
    else (j, w) :: Memory.write dflt m i v

/-- `f` below index `n`, nothing above. -/
def Memory.below {α : Type} (n : Nat) (f : α → α) (i : Nat) (v : α) : α :=
  if i < n then f v else v

/-- Applying `f`, which leaves `dflt` alone, to every entry below `n`. -/
def Memory.mapBelow {α : Type} [DecidableEq α] (dflt : α) (n : Nat) (f : α → α) : Memory α → Memory α
  | [] => []
  | (i, v) :: m =>
    if Memory.below n f i v = dflt then Memory.mapBelow dflt n f m
    else (i, Memory.below n f i v) :: Memory.mapBelow dflt n f m

/-- `stat[idx]` (10_state R36). -/
def State.statAt (s : State) (idx : BitVec 8) : StatEntry :=
  Memory.read StatEntry.zero s.stat idx.toNat

/-- `loco_addr[idx]` (10_state R37). -/
def State.locoAddrAt (s : State) (idx : BitVec 8) : BitVec 16 :=
  Memory.read broadcast s.locoAddr idx.toNat

/-- Whether a loco index has a table entry: `idx < N_LOCO` (20_memory R64). -/
def State.hasSlot (s : State) (idx : BitVec 8) : Bool :=
  decide (idx.toNat < s.cfg.nLoco)

/-- Applying `f` to `stat[idx]`; an index without an entry skips the access (20_memory R64). -/
def State.updStat (s : State) (idx : BitVec 8) (f : StatEntry → StatEntry) : State :=
  if s.hasSlot idx then s.setStat (Memory.write StatEntry.zero s.stat idx.toNat (f (s.statAt idx))) else s

/-- `loco_addr[idx] <- a`. -/
def State.setLocoAddrAt (s : State) (idx : BitVec 8) (a : BitVec 16) : State :=
  s.setLocoAddr (Memory.write broadcast s.locoAddr idx.toNat a)

/-! ## Frame stores -/

/-- Writing bytes at `k`, `k + 1`, ...; the other entries keep their contents. -/
def storeBytes (k : Nat) : List Byte → Vector Byte 9 → Vector Byte 9
  | [], v => v
  | b :: bs, v => storeBytes (k + 1) bs (v.setIfInBounds k b)

/-- Entry `i` of a frame store. An index of 9 or more is never used (10_state R42); it reads as 0 (log 16). -/
def byteAt (v : Vector Byte 9) (i : BitVec 4) : Byte :=
  (v[i.toNat]?).getD 0

/-! ## Receiver (20_memory R66 to R69) -/

/-- `RxFlush()` (R68). -/
def rxFlush (s : State) : State :=
  s.setRxFifo []

/-- `RxReadAll()`: what it returns, oldest byte first (R69). -/
def rxReadAll (s : State) : List Byte :=
  s.rxFifo

/-- `RxReadAll()`: the state it leaves, the FIFO drained (R69). -/
def rxDrain (s : State) : State :=
  s.setRxFifo []

/-- `RxByte(b)`: kept iff the receiver is enabled and not full, else lost (R67). -/
def rxAppend (b : Byte) (s : State) : State :=
  if s.out.rxEn && decide (s.rxFifo.length < s.cfg.rxDepth) then s.setRxFifo (s.rxFifo ++ [b]) else s

/-! ## XPOM table -/

/-- `xpom[q]`. -/
def State.xpomAt (s : State) (q : BitVec 2) : XpomSlot :=
  s.xpom[q.toNat]

/-- Writing slot `q`. -/
def State.setXpomAt (s : State) (q : BitVec 2) (x : XpomSlot) : State :=
  s.setXpom (s.xpom.set q.toNat x)

/-- `f` on each of the four slots. -/
def mapSlots (f : XpomSlot → XpomSlot) (v : Vector XpomSlot 4) : Vector XpomSlot 4 :=
  #v[f v[0], f v[1], f v[2], f v[3]]

/-! ## Faults and answers -/

/-- `raise <Fault>(info)` (00_scope R13): the ghost log names it, no register changes. -/
def raise (f : Raised) (s : State) : State :=
  s.setRaised (f :: s.raised)

/-- The foreground port answers (log 6). -/
def respond (r : Response) (s : State) : State :=
  s.setResponse (some r)

/-- A refused operation: no state change, the fault is raised and reported to the caller as a status (60_exceptions
R280, R282). -/
def refuse (f : Raised) (s : State) : State :=
  respond (.status f) (raise f s)

end Sys2Proof.Machine
end

