-- ==== Sys2Proof/Machine/Operands.lean ====
section
/-! DEFINITION. The operand forms: fields of RailCom datagrams (30_encoding R84 to R89), address bytes and checksum of a
frame (R90, R91), codes of `mode` and `tx_state` (R92, R93). -/

namespace Sys2Proof.Machine

/-! ## Datagram fields. A symbol is 8 bits wide and a data symbol is below 0x40 (R83). -/

/-- Identifier: `d0[5:2]` (R84). -/
def dgId (d0 : BitVec 8) : BitVec 4 :=
  d0.extractLsb' 2 4

/-- Data byte of a DG12: `d0[1:0] : d1[5:0]` (R84); also the value of a DG18 (R87) and `B0` of a DG36 (R88). -/
def dg12Val (d0 d1 : BitVec 8) : BitVec 8 :=
  d0.extractLsb' 0 2 ++ d1.extractLsb' 0 6

/-- Sub-index of a DG18: `d2[5:0]` (R87). -/
def dg18Sub (d2 : BitVec 8) : BitVec 6 :=
  d2.extractLsb' 0 6

/-- `B1` of a DG36: `d2[5:0] : d3[5:4]` (R88). -/
def dg36B1 (d2 d3 : BitVec 8) : Byte :=
  d2.extractLsb' 0 6 ++ d3.extractLsb' 4 2

/-- `B2` of a DG36: `d3[3:0] : d4[5:2]` (R88). -/
def dg36B2 (d3 d4 : BitVec 8) : Byte :=
  d3.extractLsb' 0 4 ++ d4.extractLsb' 2 4

/-- `B3` of a DG36: `d4[1:0] : d5[5:0]` (R88). -/
def dg36B3 (d4 d5 : BitVec 8) : Byte :=
  d4.extractLsb' 0 2 ++ d5.extractLsb' 0 6

/-- A combined address: `adr_hi[5:0] : adr_lo[7:0]` (R89). -/
def combineAddr (hi lo : BitVec 8) : BitVec 14 :=
  hi.extractLsb' 0 6 ++ lo

/-! ## Frame fields -/

/-- Address bytes of the 16-bit operand `A` (R90): none for 0xFFFF, one up to 127, else `0xC0 OR A[13:8]`, `A[7:0]`. -/
def addrBytes (a : BitVec 16) : List Byte :=
  if a = broadcast then []
  else if a.toNat ≤ 127 then [a.extractLsb' 0 8]
  else [0xC0 ||| (a.extractLsb' 8 6).setWidth 8, a.extractLsb' 0 8]

/-- XOR of a list of bytes, 0 of the empty list (R91). -/
def xorBytes (l : List Byte) : Byte :=
  l.foldl (· ^^^ ·) 0

/-- `Assemble(A, B)`: address bytes, payload, checksum (44_packet_buffer R210). The length `L` is the list's. -/
def assemble (a : BitVec 16) (payload : List Byte) : List Byte :=
  addrBytes a ++ payload ++ [xorBytes (addrBytes a ++ payload)]

/-! ## Codes -/

/-- The code of a `mode` (R93). -/
def Mode.code : Mode → BitVec 2
  | .noRailcom => 0
  | .railcom => 1
  | .programming => 2

/-- The `mode` of a code; 3 is reserved (R93). -/
def Mode.ofCode (m : BitVec 2) : Option Mode :=
  if m = 0 then some .noRailcom
  else if m = 1 then some .railcom
  else if m = 2 then some .programming
  else none

/-- The code of a `tx_state` (R92). -/
def TxState.code : TxState → BitVec 2
  | .ready => 0
  | .preamble => 1
  | .data => 2
  | .cutout => 3

end Sys2Proof.Machine
end

