-- ==== Sys2Proof/Machine/Flags.lean ====
section
/-! DEFINITION. Flags computed from the state or from symbols. DCCCORE has no carry, zero, sign or overflow flag
(10_state R26, 00_scope R17): every computed flag there is stands here. -/

namespace Sys2Proof.Machine

/-- The track is driven: `track_en` = 1 and `cutout_act` = 0 (10_state R21). -/
def State.driven (s : State) : Bool :=
  s.out.trackEn && !s.out.cutoutAct

/-- The slot is busy: `buf_len` ≠ 0 (10_state R29). -/
def State.busy (s : State) : Bool :=
  s.buf.bufLen != 0

/-- The channel-1 address is reported: formed, and less than 1000 ms old, the age modulo 2^32 (45_control R235). -/
def State.rc1Fresh (s : State) : Bool :=
  s.rc1.addrValid && decide ((s.time.ms - s.rc1.stamp).toNat < rc1StaleMs)

/-- A symbol is INVALID (30_encoding R83). -/
def isInvalid (d : BitVec 8) : Bool :=
  d == 0xFF

/-- `d >= 0x40`: INVALID or a sentinel, no data value (30_encoding R83). -/
def notData (d : BitVec 8) : Bool :=
  decide (0x40 ≤ d.toNat)

/-- The byte being sent is the frame's last: `byte_idx = tx_len - 1` (40_tick R117), on 4 bits (log 17). -/
def Tx.lastByte (t : Tx) : Bool :=
  t.byteIdx == t.txLen - 1

/-- The value `v` of the bit being sent: bit `7 - bit_idx` of the byte, or after it the end bit or delimiter (R117). -/
def Tx.dataBit (t : Tx) : Bool :=
  if t.bitIdx.toNat < 8 then (byteAt t.txBytes t.byteIdx).getLsbD (7 - t.bitIdx.toNat) else t.lastByte

/-- The cutout is held back while the last half-bit of the frame is a long one (40_tick R110, 41_cutout R140). -/
def Tx.cutoutHeld (t : Tx) : Bool :=
  t.cutoutStep == 0 && t.longPulse

/-- A frame length SUBMIT accepts: 2..9 (44_packet_buffer R217). -/
def frameLengthLegal (n : Nat) : Bool :=
  decide (lenMin ≤ n) && decide (n ≤ lenMax)

end Sys2Proof.Machine
end

