-- ==== Sys2Proof/Machine/Stats.lean ====
section
/-! DEFINITION. The statistics of a loco index (43_railcom R190 to R195): what each does to an entry, then to the
table. -/

namespace Sys2Proof.Machine

/-! ## Entries -/

/-- `cmd_cnt[slot]`, slot 1 for true (10_state R36). -/
def StatEntry.cmdCnt (e : StatEntry) (slot : Bool) : BitVec 6 :=
  if slot then e.cmd1 else e.cmd0

/-- `rsp_cnt[slot]` (10_state R36). -/
def StatEntry.rspCnt (e : StatEntry) (slot : Bool) : BitVec 6 :=
  if slot then e.rsp1 else e.rsp0

/-- `cmd_cnt[slot] <- v`. -/
def StatEntry.setCmdCnt (e : StatEntry) (slot : Bool) (v : BitVec 6) : StatEntry :=
  if slot then { e with cmd1 := v } else { e with cmd0 := v }

/-- `rsp_cnt[slot] <- v`. -/
def StatEntry.setRspCnt (e : StatEntry) (slot : Bool) (v : BitVec 6) : StatEntry :=
  if slot then { e with rsp1 := v } else { e with rsp0 := v }

/-- StatCommand on an entry: one more command in the active slot, its time noted (R190). -/
def StatEntry.command (ms : BitVec 32) (e : StatEntry) : StatEntry :=
  { e.setCmdCnt e.active (e.cmdCnt e.active + 1) with lastCmdMs := ms }

/-- StatResponse on an entry: time noted, one more response in the active slot (R191). -/
def StatEntry.response (ms : BitVec 32) (e : StatEntry) : StatEntry :=
  { e.setRspCnt e.active (e.rspCnt e.active + 1) with lastRspMs := ms }

/-- StatTouch on an entry: the timestamp only (R192). -/
def StatEntry.touch (ms : BitVec 32) (e : StatEntry) : StatEntry :=
  { e with lastRspMs := ms }

/-- StatRotate on an entry: when the active slot is full, the other one becomes active, cleared (R193). -/
def StatEntry.rotate (e : StatEntry) : StatEntry :=
  if window ≤ (e.cmdCnt e.active).toNat then
    { (e.setCmdCnt (!e.active) 0).setRspCnt (!e.active) 0 with active := !e.active }
  else e

/-- The two timestamps cleared (45_control R233). -/
def StatEntry.clearTimes (e : StatEntry) : StatEntry :=
  { e with lastCmdMs := 0, lastRspMs := 0 }

/-- The response rate: twice the response count of the other, just-filled slot (R195). -/
def StatEntry.rate (e : StatEntry) : BitVec 8 :=
  2 * (e.rspCnt (!e.active)).setWidth 8

/-! ## The table. Each skips an index >= N_LOCO (20_memory R64, 43_railcom R175). -/

/-- `StatCommand(i)` (R190). -/
def statCommand (idx : BitVec 8) (s : State) : State :=
  s.updStat idx (StatEntry.command s.time.ms)

/-- `StatResponse(i, stat)` (R191). -/
def statResponse (idx : BitVec 8) (s : State) : State :=
  s.updStat idx (StatEntry.response s.time.ms)

/-- `StatTouch(i, stat)` (R192). -/
def statTouch (idx : BitVec 8) (s : State) : State :=
  s.updStat idx (StatEntry.touch s.time.ms)

/-- `StatRotate(i)` (R193). -/
def statRotate (idx : BitVec 8) (s : State) : State :=
  s.updStat idx StatEntry.rotate

/-- `StatReset(i)`: every field 0 (R194). -/
def statReset (idx : BitVec 8) (s : State) : State :=
  s.updStat idx (fun _ => StatEntry.zero)

end Sys2Proof.Machine
end

