-- ==== Sys2Proof/Machine/Control.lean ====
section
/-! DEFINITION. The foreground: the packet buffer arbiter (44_packet_buffer R210 to R217), the control operations and
the accessors (45_control R230 to R247), and the meanings of the MODE codes. Every answer goes to the foreground port
(log 6). -/

namespace Sys2Proof.Machine

/-! ## Packet buffer -/

/-- ASSEMBLE: a pure function, its frame answered (R210). -/
def execAssemble (a : BitVec 16) (payload : List Byte) (s : State) : Result :=
  .next (respond (.frame (assemble a payload)) s)

/-- The loco-address check (R214): an index with an entry, an address, and not the one last used. -/
def addressChanged (idx : BitVec 8) (a : BitVec 16) (s : State) : Bool :=
  s.hasSlot idx && a != broadcast && s.locoAddrAt idx != a

/-- The effect of the check: note the address and reset the statistics in sync (R214). -/
def noteAddress (idx : BitVec 8) (a : BitVec 16) (s : State) : State :=
  if addressChanged idx a s then statReset idx (s.setLocoAddrAt idx a) else s

/-- Filling the slot, `buf_len` last (R212). -/
def fillSlot (idx : BitVec 8) (frame : List Byte) (s : State) : State :=
  s.setBuf
    { bufLen := BitVec.ofNat 4 frame.length
      bufBytes := storeBytes 0 frame s.buf.bufBytes
      bufLocoIdx := idx }

/-- The frame of a SUBMIT is refused: its length is outside 2..9 (R217). -/
def submitRefused (a : BitVec 16) (payload : List Byte) : Bool :=
  !frameLengthLegal (assemble a payload).length

/-- `Submit(idx, A, B)` (R212). On a full slot it takes no step and changes no state (R213). -/
def submit (idx : BitVec 8) (a : BitVec 16) (payload : List Byte) (s : State) : State :=
  if submitRefused a payload then refuse .badFrameLength s
  else if s.busy then s
  else respond .done (fillSlot idx (assemble a payload) (noteAddress idx a s))

/-- SUBMIT (R212, R213, R217). -/
def execSubmit (idx : BitVec 8) (a : BitVec 16) (payload : List Byte) (s : State) : Result :=
  .next (submit idx a payload s)

/-! ## Control -/

/-- `set_mode(m)`; code 3 is refused (R230). -/
def setMode (m : BitVec 2) (s : State) : State :=
  match Mode.ofCode m with
  | some v => respond .done (s.setCtl { s.ctl with mode := v })
  | none => refuse .badMode s

/-- SET_MODE (R230). -/
def execSetMode (m : BitVec 2) (s : State) : Result :=
  .next (setMode m s)

/-- GET_MODE (R231). -/
def execGetMode (s : State) : Result :=
  .next (respond (.mode s.ctl.mode.code) s)

/-- `booster_on()`: the power flag, and the four XPOM slots blocked (R232). -/
def boosterOn (s : State) : State :=
  (s.setCtl { s.ctl with boosterOn := true }).setXpom (mapSlots (fun x => { x with valid := true }) s.xpom)

/-- BOOSTER_ON (R232). -/
def execBoosterOn (s : State) : Result :=
  .next (respond .done (boosterOn s))

/-- `booster_off()` (R233). -/
def boosterOff (s : State) : State :=
  (((s.setCtl { s.ctl with boosterOn := false }).setOut
      { s.out with trackEn := false, cutoutAct := false, rxEn := false }).setXpom
      (mapSlots (fun x => { x with valid := false }) s.xpom)).setStat
    (Memory.mapBelow StatEntry.zero s.cfg.nLoco StatEntry.clearTimes s.stat)

/-- BOOSTER_OFF (R233). -/
def execBoosterOff (s : State) : Result :=
  .next (respond .done (boosterOff s))

/-- SET_CUTOUT_INHIBIT (R234). -/
def execSetCutoutInhibit (v : BitVec 1) (s : State) : Result :=
  .next (respond .done (s.setCtl { s.ctl with cutoutInhibit := v == 1 }))

/-! ## MODE codes: `set_mode` of the code (R93, R230; log 11) -/

/-- MODE_NO_RAILCOM (R93). -/
def execModeNoRailcom (s : State) : Result :=
  .next (setMode 0 s)

/-- MODE_RAILCOM (R93). -/
def execModeRailcom (s : State) : Result :=
  .next (setMode 1 s)

/-- MODE_PROGRAMMING (R93). -/
def execModeProgramming (s : State) : Result :=
  .next (setMode 2 s)

/-- MODE_RESERVED_3: a write of 3 is refused (R93, R230). -/
def execModeReserved3 (s : State) : Result :=
  .next (setMode 3 s)

/-! ## Accessors. The GET operations are pure reads: nothing but the answer changes (20_memory R79). -/

/-- GET_RC1_ADDR: `addr` is meaningful only when `valid` (R235). -/
def execGetRc1Addr (s : State) : Result :=
  .next (respond (.rc1Addr s.rc1Fresh s.rc1.addr) s)

/-- `get_rc2_rate(idx)`; 0 for an index without an entry (R236). -/
def rc2Rate (idx : BitVec 8) (s : State) : BitVec 8 :=
  if s.hasSlot idx then (s.statAt idx).rate else 0

/-- GET_RC2_RATE (R236). -/
def execGetRc2Rate (idx : BitVec 8) (s : State) : Result :=
  .next (respond (.rate (rc2Rate idx s)) s)

/-- `get_rc2_age(idx)`; all ones for an index without an entry (R237). -/
def rc2Age (idx : BitVec 8) (s : State) : BitVec 32 :=
  if s.hasSlot idx then s.time.ms - (s.statAt idx).lastRspMs else 0xFFFFFFFF

/-- GET_RC2_AGE (R237). -/
def execGetRc2Age (idx : BitVec 8) (s : State) : Result :=
  .next (respond (.age (rc2Age idx s)) s)

/-- GET_CV (R238). -/
def execGetCv (s : State) : Result :=
  .next (respond (.cv s.rc2.cvValid s.rc2.cv) s)

/-- CLR_CV (R239). -/
def execClrCv (s : State) : Result :=
  .next (respond .done (s.setRc2 { s.rc2 with cvValid := false }))

/-- GET_XPOM (R240). -/
def execGetXpom (q : BitVec 2) (s : State) : Result :=
  .next (respond (.xpom (s.xpomAt q).valid (s.xpomAt q).b0 (s.xpomAt q).b1 (s.xpomAt q).b2 (s.xpomAt q).b3) s)

/-- CLR_XPOM (R241). -/
def execClrXpom (q : BitVec 2) (s : State) : Result :=
  .next (respond .done (s.setXpomAt q { s.xpomAt q with valid := false }))

/-- GET_DYN (R242). -/
def execGetDyn (s : State) : Result :=
  .next (respond (.dyn s.rc2.dynValid s.rc2.dynVal s.rc2.dynHasSub s.rc2.dynSub) s)

/-- CLR_DYN (R243). -/
def execClrDyn (s : State) : Result :=
  .next (respond .done (s.setRc2 { s.rc2 with dynValid := false }))

/-- GET_RC2_ADDR (R244). -/
def execGetRc2Addr (s : State) : Result :=
  .next (respond (.rc2Addr s.rc2.addrValid s.rc2.addr) s)

/-- CLR_RC2_ADDR (R245). -/
def execClrRc2Addr (s : State) : Result :=
  .next (respond .done (s.setRc2 { s.rc2 with addrValid := false }))

/-- GET_BUF_BUSY (R246). -/
def execGetBufBusy (s : State) : Result :=
  .next (respond (.busy s.busy) s)

/-- GET_MS (R247). -/
def execGetMs (s : State) : Result :=
  .next (respond (.ms s.time.ms) s)

end Sys2Proof.Machine
end

