-- ==== Sys2Proof/Machine/Hamming.lean ====
section
/-! DEFINITION. The decoder table and HAMDEC (42_hamming_lut R160 to R166), and the meanings of the RC_BYTE rows: each is
the decoding of one received byte, whose symbol the operation answers (log 12). The byte values are general knowledge
by the spec's own mark (GK1, GK2; log 23). -/

namespace Sys2Proof.Machine

/-- LUT[0x00..0x0F] (R166). -/
def lutRow0 : List (BitVec 8) :=
  [0xFF, 0xFF, 0xFF, 0xFF, 0xFF, 0xFF, 0xFF, 0xFF, 0xFF, 0xFF, 0xFF, 0xFF, 0xFF, 0xFF, 0xFF, 0x40]

/-- LUT[0x10..0x1F] (R166). -/
def lutRow1 : List (BitVec 8) :=
  [0xFF, 0xFF, 0xFF, 0xFF, 0xFF, 0xFF, 0xFF, 0x33, 0xFF, 0xFF, 0xFF, 0x34, 0xFF, 0x35, 0x36, 0xFF]

/-- LUT[0x20..0x2F] (R166). -/
def lutRow2 : List (BitVec 8) :=
  [0xFF, 0xFF, 0xFF, 0xFF, 0xFF, 0xFF, 0xFF, 0x3A, 0xFF, 0xFF, 0xFF, 0x3B, 0xFF, 0x3C, 0x37, 0xFF]

/-- LUT[0x30..0x3F] (R166). -/
def lutRow3 : List (BitVec 8) :=
  [0xFF, 0xFF, 0xFF, 0x3F, 0xFF, 0x3D, 0x38, 0xFF, 0xFF, 0x3E, 0x39, 0xFF, 0x41, 0xFF, 0xFF, 0xFF]

/-- LUT[0x40..0x4F] (R166). -/
def lutRow4 : List (BitVec 8) :=
  [0xFF, 0xFF, 0xFF, 0xFF, 0xFF, 0xFF, 0xFF, 0x24, 0xFF, 0xFF, 0xFF, 0x23, 0xFF, 0x22, 0x21, 0xFF]

/-- LUT[0x50..0x5F] (R166). -/
def lutRow5 : List (BitVec 8) :=
  [0xFF, 0xFF, 0xFF, 0x1F, 0xFF, 0x1E, 0x20, 0xFF, 0xFF, 0x1D, 0x1C, 0xFF, 0x1B, 0xFF, 0xFF, 0xFF]

/-- LUT[0x60..0x6F] (R166). -/
def lutRow6 : List (BitVec 8) :=
  [0xFF, 0xFF, 0xFF, 0x19, 0xFF, 0x18, 0x1A, 0xFF, 0xFF, 0x17, 0x16, 0xFF, 0x15, 0xFF, 0xFF, 0xFF]

/-- LUT[0x70..0x7F] (R166). -/
def lutRow7 : List (BitVec 8) :=
  [0xFF, 0x25, 0x14, 0xFF, 0x13, 0xFF, 0xFF, 0xFF, 0x32, 0xFF, 0xFF, 0xFF, 0xFF, 0xFF, 0xFF, 0xFF]

/-- LUT[0x80..0x8F] (R166). -/
def lutRow8 : List (BitVec 8) :=
  [0xFF, 0xFF, 0xFF, 0xFF, 0xFF, 0xFF, 0xFF, 0x44, 0xFF, 0xFF, 0xFF, 0x0E, 0xFF, 0x0D, 0x0C, 0xFF]

/-- LUT[0x90..0x9F] (R166). -/
def lutRow9 : List (BitVec 8) :=
  [0xFF, 0xFF, 0xFF, 0x0A, 0xFF, 0x09, 0x0B, 0xFF, 0xFF, 0x08, 0x07, 0xFF, 0x06, 0xFF, 0xFF, 0xFF]

/-- LUT[0xA0..0xAF] (R166). -/
def lutRowA : List (BitVec 8) :=
  [0xFF, 0xFF, 0xFF, 0x04, 0xFF, 0x03, 0x05, 0xFF, 0xFF, 0x02, 0x01, 0xFF, 0x00, 0xFF, 0xFF, 0xFF]

/-- LUT[0xB0..0xBF] (R166). -/
def lutRowB : List (BitVec 8) :=
  [0xFF, 0x0F, 0x10, 0xFF, 0x11, 0xFF, 0xFF, 0xFF, 0x12, 0xFF, 0xFF, 0xFF, 0xFF, 0xFF, 0xFF, 0xFF]

/-- LUT[0xC0..0xCF] (R166). -/
def lutRowC : List (BitVec 8) :=
  [0xFF, 0xFF, 0xFF, 0x43, 0xFF, 0x2B, 0x30, 0xFF, 0xFF, 0x2A, 0x2F, 0xFF, 0x31, 0xFF, 0xFF, 0xFF]

/-- LUT[0xD0..0xDF] (R166). -/
def lutRowD : List (BitVec 8) :=
  [0xFF, 0x29, 0x2E, 0xFF, 0x2D, 0xFF, 0xFF, 0xFF, 0x2C, 0xFF, 0xFF, 0xFF, 0xFF, 0xFF, 0xFF, 0xFF]

/-- LUT[0xE0..0xEF] (R166). -/
def lutRowE : List (BitVec 8) :=
  [0xFF, 0x42, 0x28, 0xFF, 0x27, 0xFF, 0xFF, 0xFF, 0x26, 0xFF, 0xFF, 0xFF, 0xFF, 0xFF, 0xFF, 0xFF]

/-- LUT[0xF0..0xFF] (R166). -/
def lutRowF : List (BitVec 8) :=
  [0x40, 0xFF, 0xFF, 0xFF, 0xFF, 0xFF, 0xFF, 0xFF, 0xFF, 0xFF, 0xFF, 0xFF, 0xFF, 0xFF, 0xFF, 0xFF]

/-- The 256-entry table (R166). -/
def lutTable : List (BitVec 8) :=
  lutRow0 ++ lutRow1 ++ lutRow2 ++ lutRow3 ++ lutRow4 ++ lutRow5 ++ lutRow6 ++ lutRow7 ++
    lutRow8 ++ lutRow9 ++ lutRowA ++ lutRowB ++ lutRowC ++ lutRowD ++ lutRowE ++ lutRowF

/-- `LUT[b]` (20_memory R63). -/
def lut (b : Byte) : BitVec 8 :=
  lutTable.getD b.toNat 0xFF

/-- `HamDec(b)`: the 0xF8 correction, then one table lookup (R160, R164). -/
def hamDec (b : Byte) : BitVec 8 :=
  lut (if b = 0xF8 then 0xF0 else b)

/-- The decoding of one byte, its symbol answered. -/
def answerSymbol (b : Byte) (s : State) : State :=
  respond (.symbol (hamDec b)) s

/-- HAMDEC (R160). -/
def execHamdec (b : Byte) (s : State) : Result :=
  .next (answerSymbol b s)

/-! ## RC_BYTE rows -/

/-- RC_DATA_00: byte 0xAC (R161). -/
def execRcData00 (s : State) : Result :=
  .next (answerSymbol 0xAC s)

/-- RC_DATA_01: byte 0xAA (R161). -/
def execRcData01 (s : State) : Result :=
  .next (answerSymbol 0xAA s)

/-- RC_DATA_02: byte 0xA9 (R161). -/
def execRcData02 (s : State) : Result :=
  .next (answerSymbol 0xA9 s)

/-- RC_DATA_03: byte 0xA5 (R161). -/
def execRcData03 (s : State) : Result :=
  .next (answerSymbol 0xA5 s)

/-- RC_DATA_04: byte 0xA3 (R161). -/
def execRcData04 (s : State) : Result :=
  .next (answerSymbol 0xA3 s)

/-- RC_DATA_05: byte 0xA6 (R161). -/
def execRcData05 (s : State) : Result :=
  .next (answerSymbol 0xA6 s)

/-- RC_DATA_06: byte 0x9C (R161). -/
def execRcData06 (s : State) : Result :=
  .next (answerSymbol 0x9C s)

/-- RC_DATA_07: byte 0x9A (R161). -/
def execRcData07 (s : State) : Result :=
  .next (answerSymbol 0x9A s)

/-- RC_DATA_08: byte 0x99 (R161). -/
def execRcData08 (s : State) : Result :=
  .next (answerSymbol 0x99 s)

/-- RC_DATA_09: byte 0x95 (R161). -/
def execRcData09 (s : State) : Result :=
  .next (answerSymbol 0x95 s)

/-- RC_DATA_0A: byte 0x93 (R161). -/
def execRcData0A (s : State) : Result :=
  .next (answerSymbol 0x93 s)

/-- RC_DATA_0B: byte 0x96 (R161). -/
def execRcData0B (s : State) : Result :=
  .next (answerSymbol 0x96 s)

/-- RC_DATA_0C: byte 0x8E (R161). -/
def execRcData0C (s : State) : Result :=
  .next (answerSymbol 0x8E s)

/-- RC_DATA_0D: byte 0x8D (R161). -/
def execRcData0D (s : State) : Result :=
  .next (answerSymbol 0x8D s)

/-- RC_DATA_0E: byte 0x8B (R161). -/
def execRcData0E (s : State) : Result :=
  .next (answerSymbol 0x8B s)

/-- RC_DATA_0F: byte 0xB1 (R161). -/
def execRcData0F (s : State) : Result :=
  .next (answerSymbol 0xB1 s)

/-- RC_DATA_10: byte 0xB2 (R161). -/
def execRcData10 (s : State) : Result :=
  .next (answerSymbol 0xB2 s)

/-- RC_DATA_11: byte 0xB4 (R161). -/
def execRcData11 (s : State) : Result :=
  .next (answerSymbol 0xB4 s)

/-- RC_DATA_12: byte 0xB8 (R161). -/
def execRcData12 (s : State) : Result :=
  .next (answerSymbol 0xB8 s)

/-- RC_DATA_13: byte 0x74 (R161). -/
def execRcData13 (s : State) : Result :=
  .next (answerSymbol 0x74 s)

/-- RC_DATA_14: byte 0x72 (R161). -/
def execRcData14 (s : State) : Result :=
  .next (answerSymbol 0x72 s)

/-- RC_DATA_15: byte 0x6C (R161). -/
def execRcData15 (s : State) : Result :=
  .next (answerSymbol 0x6C s)

/-- RC_DATA_16: byte 0x6A (R161). -/
def execRcData16 (s : State) : Result :=
  .next (answerSymbol 0x6A s)

/-- RC_DATA_17: byte 0x69 (R161). -/
def execRcData17 (s : State) : Result :=
  .next (answerSymbol 0x69 s)

/-- RC_DATA_18: byte 0x65 (R161). -/
def execRcData18 (s : State) : Result :=
  .next (answerSymbol 0x65 s)

/-- RC_DATA_19: byte 0x63 (R161). -/
def execRcData19 (s : State) : Result :=
  .next (answerSymbol 0x63 s)

/-- RC_DATA_1A: byte 0x66 (R161). -/
def execRcData1A (s : State) : Result :=
  .next (answerSymbol 0x66 s)

/-- RC_DATA_1B: byte 0x5C (R161). -/
def execRcData1B (s : State) : Result :=
  .next (answerSymbol 0x5C s)

/-- RC_DATA_1C: byte 0x5A (R161). -/
def execRcData1C (s : State) : Result :=
  .next (answerSymbol 0x5A s)

/-- RC_DATA_1D: byte 0x59 (R161). -/
def execRcData1D (s : State) : Result :=
  .next (answerSymbol 0x59 s)

/-- RC_DATA_1E: byte 0x55 (R161). -/
def execRcData1E (s : State) : Result :=
  .next (answerSymbol 0x55 s)

/-- RC_DATA_1F: byte 0x53 (R161). -/
def execRcData1F (s : State) : Result :=
  .next (answerSymbol 0x53 s)

/-- RC_DATA_20: byte 0x56 (R161). -/
def execRcData20 (s : State) : Result :=
  .next (answerSymbol 0x56 s)

/-- RC_DATA_21: byte 0x4E (R161). -/
def execRcData21 (s : State) : Result :=
  .next (answerSymbol 0x4E s)

/-- RC_DATA_22: byte 0x4D (R161). -/
def execRcData22 (s : State) : Result :=
  .next (answerSymbol 0x4D s)

/-- RC_DATA_23: byte 0x4B (R161). -/
def execRcData23 (s : State) : Result :=
  .next (answerSymbol 0x4B s)

/-- RC_DATA_24: byte 0x47 (R161). -/
def execRcData24 (s : State) : Result :=
  .next (answerSymbol 0x47 s)

/-- RC_DATA_25: byte 0x71 (R161). -/
def execRcData25 (s : State) : Result :=
  .next (answerSymbol 0x71 s)

/-- RC_DATA_26: byte 0xE8 (R161). -/
def execRcData26 (s : State) : Result :=
  .next (answerSymbol 0xE8 s)

/-- RC_DATA_27: byte 0xE4 (R161). -/
def execRcData27 (s : State) : Result :=
  .next (answerSymbol 0xE4 s)

/-- RC_DATA_28: byte 0xE2 (R161). -/
def execRcData28 (s : State) : Result :=
  .next (answerSymbol 0xE2 s)

/-- RC_DATA_29: byte 0xD1 (R161). -/
def execRcData29 (s : State) : Result :=
  .next (answerSymbol 0xD1 s)

/-- RC_DATA_2A: byte 0xC9 (R161). -/
def execRcData2A (s : State) : Result :=
  .next (answerSymbol 0xC9 s)

/-- RC_DATA_2B: byte 0xC5 (R161). -/
def execRcData2B (s : State) : Result :=
  .next (answerSymbol 0xC5 s)

/-- RC_DATA_2C: byte 0xD8 (R161). -/
def execRcData2C (s : State) : Result :=
  .next (answerSymbol 0xD8 s)

/-- RC_DATA_2D: byte 0xD4 (R161). -/
def execRcData2D (s : State) : Result :=
  .next (answerSymbol 0xD4 s)

/-- RC_DATA_2E: byte 0xD2 (R161). -/
def execRcData2E (s : State) : Result :=
  .next (answerSymbol 0xD2 s)

/-- RC_DATA_2F: byte 0xCA (R161). -/
def execRcData2F (s : State) : Result :=
  .next (answerSymbol 0xCA s)

/-- RC_DATA_30: byte 0xC6 (R161). -/
def execRcData30 (s : State) : Result :=
  .next (answerSymbol 0xC6 s)

/-- RC_DATA_31: byte 0xCC (R161). -/
def execRcData31 (s : State) : Result :=
  .next (answerSymbol 0xCC s)

/-- RC_DATA_32: byte 0x78 (R161). -/
def execRcData32 (s : State) : Result :=
  .next (answerSymbol 0x78 s)

/-- RC_DATA_33: byte 0x17 (R161). -/
def execRcData33 (s : State) : Result :=
  .next (answerSymbol 0x17 s)

/-- RC_DATA_34: byte 0x1B (R161). -/
def execRcData34 (s : State) : Result :=
  .next (answerSymbol 0x1B s)

/-- RC_DATA_35: byte 0x1D (R161). -/
def execRcData35 (s : State) : Result :=
  .next (answerSymbol 0x1D s)

/-- RC_DATA_36: byte 0x1E (R161). -/
def execRcData36 (s : State) : Result :=
  .next (answerSymbol 0x1E s)

/-- RC_DATA_37: byte 0x2E (R161). -/
def execRcData37 (s : State) : Result :=
  .next (answerSymbol 0x2E s)

/-- RC_DATA_38: byte 0x36 (R161). -/
def execRcData38 (s : State) : Result :=
  .next (answerSymbol 0x36 s)

/-- RC_DATA_39: byte 0x3A (R161). -/
def execRcData39 (s : State) : Result :=
  .next (answerSymbol 0x3A s)

/-- RC_DATA_3A: byte 0x27 (R161). -/
def execRcData3A (s : State) : Result :=
  .next (answerSymbol 0x27 s)

/-- RC_DATA_3B: byte 0x2B (R161). -/
def execRcData3B (s : State) : Result :=
  .next (answerSymbol 0x2B s)

/-- RC_DATA_3C: byte 0x2D (R161). -/
def execRcData3C (s : State) : Result :=
  .next (answerSymbol 0x2D s)

/-- RC_DATA_3D: byte 0x35 (R161). -/
def execRcData3D (s : State) : Result :=
  .next (answerSymbol 0x35 s)

/-- RC_DATA_3E: byte 0x39 (R161). -/
def execRcData3E (s : State) : Result :=
  .next (answerSymbol 0x39 s)

/-- RC_DATA_3F: byte 0x33 (R161). -/
def execRcData3F (s : State) : Result :=
  .next (answerSymbol 0x33 s)

/-- RC_ACK_0F: byte 0x0F (R162). -/
def execRcAck0F (s : State) : Result :=
  .next (answerSymbol 0x0F s)

/-- RC_ACK_F0: byte 0xF0 (R162). -/
def execRcAckF0 (s : State) : Result :=
  .next (answerSymbol 0xF0 s)

/-- RC_ACK_F8_REMAP: byte 0xF8 (R164). -/
def execRcAckF8Remap (s : State) : Result :=
  .next (answerSymbol 0xF8 s)

/-- RC_NACK: byte 0x3C (R162). -/
def execRcNack (s : State) : Result :=
  .next (answerSymbol 0x3C s)

/-- RC_RSV1: byte 0xE1 (R162). -/
def execRcRsv1 (s : State) : Result :=
  .next (answerSymbol 0xE1 s)

/-- RC_RSV2: byte 0xC3 (R162). -/
def execRcRsv2 (s : State) : Result :=
  .next (answerSymbol 0xC3 s)

/-- RC_RSV3: byte 0x87 (R162). -/
def execRcRsv3 (s : State) : Result :=
  .next (answerSymbol 0x87 s)

/-- RC_INVALID: a byte of no codeword decodes to INVALID (R163). -/
def execRcInvalid (b : Byte) (s : State) : Result :=
  .next (answerSymbol b s)

end Sys2Proof.Machine
end

