-- ==== Sys2Proof/Machine/Railcom.lean ====
section
/-! DEFINITION. The RailCom channel decoder (43_railcom R170 to R187), the receiver's byte (20_memory R67), and the
meanings of the datagram rows. Each datagram has one operation, which the channel decode runs and the row's meaning
runs. -/

namespace Sys2Proof.Machine

/-- RXBYTE: the receiver environment delivers a byte (20_memory R67). -/
def execRxbyte (b : Byte) (s : State) : Result :=
  .next (rxAppend b s)

/-! ## Channel 1 -/

/-- `Combine1` (R171). -/
def combine1 (s : State) : State :=
  if s.rc1.hiValid && s.rc1.loValid then
    s.setRc1 { s.rc1 with
      addr := combineAddr s.rc1.adrHi s.rc1.adrLo
      addrValid := true
      stamp := s.time.ms
      hiValid := false
      loValid := false }
  else s

/-- Channel-1 identifier 1 (R170). -/
def rc1AdrHigh (val : BitVec 8) (s : State) : State :=
  combine1 (s.setRc1 { s.rc1 with adrHi := val, hiValid := true })

/-- Channel-1 identifier 2 (R170). -/
def rc1AdrLow (val : BitVec 8) (s : State) : State :=
  combine1 (s.setRc1 { s.rc1 with adrLo := val, loValid := true })

/-- A channel-1 frame of two bytes (R170): both must be data symbols, identifiers other than 1 and 2 are ignored. -/
def ch1Pair (d0 d1 : BitVec 8) (s : State) : State :=
  if notData d0 || notData d1 then raise (.badSymbol .ch1) s
  else if dgId d0 = 1 then rc1AdrHigh (dg12Val d0 d1) s
  else if dgId d0 = 2 then rc1AdrLow (dg12Val d0 d1) s
  else s

/-- `Ch1Decode(raw)` (R170). -/
def ch1Decode (raw : List Byte) (s : State) : State :=
  match raw with
  | [r0, r1] => ch1Pair (hamDec r0) (hamDec r1) s
  | _ => raise (.badLength .ch1 raw.length) s

/-- CH1DEC (R170). -/
def execCh1dec (raw : List Byte) (s : State) : Result :=
  .next (ch1Decode raw s)

/-- RC1_ADR_HIGH (R170). -/
def execRc1AdrHigh (val : BitVec 8) (s : State) : Result :=
  .next (rc1AdrHigh val s)

/-- RC1_ADR_LOW (R170). -/
def execRc1AdrLow (val : BitVec 8) (s : State) : Result :=
  .next (rc1AdrLow val s)

/-! ## Channel 2: datagrams. `idx` is the loco index whose statistics they count in. -/

/-- `Combine2` (R183): as Combine1, without a timestamp. -/
def combine2 (s : State) : State :=
  if s.rc2.hiValid && s.rc2.loValid then
    s.setRc2 { s.rc2 with
      addr := combineAddr s.rc2.adrHi s.rc2.adrLo
      addrValid := true
      hiValid := false
      loValid := false }
  else s

/-- Identifier 0, POM (R180). -/
def rc2Pom (val : BitVec 8) (idx : BitVec 8) (s : State) : State :=
  statResponse idx (s.setRc2 { s.rc2 with cv := val, cvValid := true })

/-- Identifier 1, ADR_HIGH (R181). -/
def rc2AdrHigh (val : BitVec 8) (idx : BitVec 8) (s : State) : State :=
  statResponse idx (combine2 (s.setRc2 { s.rc2 with adrHi := val, hiValid := true }))

/-- Identifier 2, ADR_LOW (R182). -/
def rc2AdrLow (val : BitVec 8) (idx : BitVec 8) (s : State) : State :=
  statResponse idx (combine2 (s.setRc2 { s.rc2 with adrLo := val, loValid := true }))

/-- Identifier 7, DYN with a third symbol (R184). -/
def rc2Dyn (val : BitVec 8) (sub : BitVec 6) (idx : BitVec 8) (s : State) : State :=
  statResponse idx
    (s.setRc2 { s.rc2 with dynVal := val, dynSub := sub, dynHasSub := true, dynValid := true })

/-- Identifier 7, DYN without one: `rc2_dyn_sub` keeps its contents (R184). -/
def rc2DynNosub (val : BitVec 8) (idx : BitVec 8) (s : State) : State :=
  statResponse idx (s.setRc2 { s.rc2 with dynVal := val, dynHasSub := false, dynValid := true })

/-- Identifiers 8..11, XPOM sequence `q`: stored only in a slot whose flag is 0, counted as a response either way
(R185). -/
def rc2Xpom (q : BitVec 2) (b0 b1 b2 b3 : Byte) (idx : BitVec 8) (s : State) : State :=
  statResponse idx (if (s.xpomAt q).valid then s else s.setXpomAt q ⟨b0, b1, b2, b3, true⟩)

/-- An unrecognised identifier: the timestamp only (R186). -/
def rc2Unknown (id : Nat) (idx : BitVec 8) (s : State) : State :=
  statTouch idx (raise (.unknownId id) s)

/-! ## Channel 2: frames -/

/-- Identifier 8..11: six symbols, or a malformed length (R185). -/
def ch2Xpom (d : List (BitVec 8)) (q : BitVec 2) (idx : BitVec 8) (s : State) : State :=
  match d with
  | [d0, d1, d2, d3, d4, d5] =>
    rc2Xpom q (dg12Val d0 d1) (dg36B1 d2 d3) (dg36B2 d3 d4) (dg36B3 d4 d5) idx s
  | _ => raise (.badLength .ch2 d.length) s

/-- Identifier 7: with a third symbol or without (R184). -/
def ch2Dyn (val : BitVec 8) (rest : List (BitVec 8)) (idx : BitVec 8) (s : State) : State :=
  match rest with
  | d2 :: _ => rc2Dyn val (dg18Sub d2) idx s
  | [] => rc2DynNosub val idx s

/-- Structured decode of data symbols (R179): identifier, data byte, dispatch. Only the first datagram is read (R187). -/
def ch2Structured (d : List (BitVec 8)) (idx : BitVec 8) (s : State) : State :=
  match d with
  | d0 :: d1 :: rest =>
    match (dgId d0).toNat with
    | 0 => rc2Pom (dg12Val d0 d1) idx s
    | 1 => rc2AdrHigh (dg12Val d0 d1) idx s
    | 2 => rc2AdrLow (dg12Val d0 d1) idx s
    | 7 => ch2Dyn (dg12Val d0 d1) rest idx s
    | 8 => ch2Xpom d 0 idx s
    | 9 => ch2Xpom d 1 idx s
    | 10 => ch2Xpom d 2 idx s
    | 11 => ch2Xpom d 3 idx s
    | id => rc2Unknown id idx s
  | _ => raise (.badLength .ch2 d.length) s

/-- The symbols of a frame of 1..6 bytes: INVALID (R177), then sentinels (R178), then structured decode (R179). -/
def ch2Symbols (d : List (BitVec 8)) (idx : BitVec 8) (s : State) : State :=
  if d.any isInvalid then raise (.badSymbol .ch2) s
  else if d.countP notData = 1 then statResponse idx s
  else if 2 ≤ d.countP notData then statTouch idx s
  else ch2Structured d idx s

/-- `Ch2Body` (R176 to R186). -/
def ch2Body (raw : List Byte) (idx : BitVec 8) (s : State) : State :=
  if raw.length = 0 then s
  else if rc2Max < raw.length then raise (.badLength .ch2 raw.length) s
  else ch2Symbols (raw.map hamDec) idx s

/-- `Ch2Decode(raw, idx)`: command, body, rotation, in this order (R175). -/
def ch2Decode (raw : List Byte) (idx : BitVec 8) (s : State) : State :=
  statRotate idx (ch2Body raw idx (statCommand idx s))

/-- CH2DEC (R175). -/
def execCh2dec (raw : List Byte) (idx : BitVec 8) (s : State) : Result :=
  .next (ch2Decode raw idx s)

/-! ## Channel-2 datagram rows. On its own a row counts for the frame just sent, `tx_loco_idx` (41_cutout R149); log 13. -/

/-- RC2_POM (R180). -/
def execRc2Pom (val : BitVec 8) (s : State) : Result :=
  .next (rc2Pom val s.tx.txLocoIdx s)

/-- RC2_ADR_HIGH (R181). -/
def execRc2AdrHigh (val : BitVec 8) (s : State) : Result :=
  .next (rc2AdrHigh val s.tx.txLocoIdx s)

/-- RC2_ADR_LOW (R182). -/
def execRc2AdrLow (val : BitVec 8) (s : State) : Result :=
  .next (rc2AdrLow val s.tx.txLocoIdx s)

/-- RC2_DYN (R184). -/
def execRc2Dyn (val : BitVec 8) (sub : BitVec 6) (s : State) : Result :=
  .next (rc2Dyn val sub s.tx.txLocoIdx s)

/-- RC2_DYN_NOSUB (R184). -/
def execRc2DynNosub (val : BitVec 8) (s : State) : Result :=
  .next (rc2DynNosub val s.tx.txLocoIdx s)

/-- RC2_XPOM0 (R185). -/
def execRc2Xpom0 (b0 b1 b2 b3 : Byte) (s : State) : Result :=
  .next (rc2Xpom 0 b0 b1 b2 b3 s.tx.txLocoIdx s)

/-- RC2_XPOM1 (R185). -/
def execRc2Xpom1 (b0 b1 b2 b3 : Byte) (s : State) : Result :=
  .next (rc2Xpom 1 b0 b1 b2 b3 s.tx.txLocoIdx s)

/-- RC2_XPOM2 (R185). -/
def execRc2Xpom2 (b0 b1 b2 b3 : Byte) (s : State) : Result :=
  .next (rc2Xpom 2 b0 b1 b2 b3 s.tx.txLocoIdx s)

/-- RC2_XPOM3 (R185). -/
def execRc2Xpom3 (b0 b1 b2 b3 : Byte) (s : State) : Result :=
  .next (rc2Xpom 3 b0 b1 b2 b3 s.tx.txLocoIdx s)

/-- RC2_UNKNOWN_3 (R186); the eight payload bits are not decoded (log 22). -/
def execRc2Unknown3 (_payload : BitVec 8) (s : State) : Result :=
  .next (rc2Unknown 3 s.tx.txLocoIdx s)

/-- RC2_UNKNOWN_4 (R186); the eight payload bits are not decoded (log 22). -/
def execRc2Unknown4 (_payload : BitVec 8) (s : State) : Result :=
  .next (rc2Unknown 4 s.tx.txLocoIdx s)

/-- RC2_UNKNOWN_5 (R186); the eight payload bits are not decoded (log 22). -/
def execRc2Unknown5 (_payload : BitVec 8) (s : State) : Result :=
  .next (rc2Unknown 5 s.tx.txLocoIdx s)

/-- RC2_UNKNOWN_6 (R186); the eight payload bits are not decoded (log 22). -/
def execRc2Unknown6 (_payload : BitVec 8) (s : State) : Result :=
  .next (rc2Unknown 6 s.tx.txLocoIdx s)

/-- RC2_UNKNOWN_12 (R186); the eight payload bits are not decoded (log 22). -/
def execRc2Unknown12 (_payload : BitVec 8) (s : State) : Result :=
  .next (rc2Unknown 12 s.tx.txLocoIdx s)

/-- RC2_UNKNOWN_13 (R186); the eight payload bits are not decoded (log 22). -/
def execRc2Unknown13 (_payload : BitVec 8) (s : State) : Result :=
  .next (rc2Unknown 13 s.tx.txLocoIdx s)

/-- RC2_UNKNOWN_14 (R186); the eight payload bits are not decoded (log 22). -/
def execRc2Unknown14 (_payload : BitVec 8) (s : State) : Result :=
  .next (rc2Unknown 14 s.tx.txLocoIdx s)

/-- RC2_UNKNOWN_15 (R186); the eight payload bits are not decoded (log 22). -/
def execRc2Unknown15 (_payload : BitVec 8) (s : State) : Result :=
  .next (rc2Unknown 15 s.tx.txLocoIdx s)

end Sys2Proof.Machine
end

