-- ==== Sys2Proof/Machine/Cutout.lean ====
section
/-! DEFINITION. The RailCom cutout sequencer (41_cutout R140 to R151): one operation per step, and the tick in CUTOUT
that runs the one `cutout_step` selects. Every action is skipped when the track is not powered, `booster_on` = 0, and
the counter advances all the same (R141, R151). -/

namespace Sys2Proof.Machine

/-- `cutout_step <- k`. -/
def toStep (k : BitVec 5) (s : State) : State :=
  s.setTx { s.tx with cutoutStep := k }

/-- An action of a step, skipped without track power (R141). -/
def whenPowered (f : State → State) (s : State) : State :=
  if s.ctl.boosterOn then f s else s

/-- Step 0, no action (R142). -/
def coNop0 (s : State) : State :=
  toStep 1 s

/-- Step 1, force positive polarity (R143). -/
def coForcePos (s : State) : State :=
  toStep 2 (whenPowered (fun s => s.setOut { s.out with trackPol := true }) s)

/-- Step 2, assert cutout (R144). -/
def coAssert (s : State) : State :=
  toStep 3 (whenPowered (fun s => s.setOut { s.out with cutoutAct := true }) s)

/-- Step 4, receiver on (R146). -/
def coRxEnable (s : State) : State :=
  toStep 5 (whenPowered (fun s => s.setOut { s.out with rxEn := true }) s)

/-- Step 5, flush (R147). -/
def coRxFlush (s : State) : State :=
  toStep 6 (whenPowered rxFlush s)

/-- Steps without an action, `cutout_step <- cutout_step + 1` (R145). -/
def coIdle (s : State) : State :=
  toStep (s.tx.cutoutStep + 1) s

/-- Step 9, read and decode channel 1 (R148). -/
def coReadCh1 (s : State) : State :=
  toStep 10 (whenPowered (fun s => ch1Decode (rxReadAll s) (rxDrain s)) s)

/-- Receiver off (R149). -/
def rxDisable (s : State) : State :=
  s.setOut { s.out with rxEn := false }

/-- Step 17, read and decode channel 2 for the loco index of the frame just sent, receiver off (R149). -/
def coReadCh2 (s : State) : State :=
  toStep 18 (whenPowered (fun s => rxDisable (ch2Decode (rxReadAll s) s.tx.txLocoIdx (rxDrain s))) s)

/-- Step 18, end: cutout off and flush when powered; back to READY always (R150). -/
def coEnd (s : State) : State :=
  let s' := whenPowered (fun s => rxFlush (s.setOut { s.out with cutoutAct := false })) s
  s'.setTx { s'.tx with txState := .ready, halfTick := false, cutoutStep := 0 }

/-- `CutoutStep`: the step `cutout_step` selects (R141). Codes without an action, and the codes 19..31 that are never
held, take the `otherwise` branch (log 18). -/
def cutoutStep (s : State) : State :=
  match s.tx.cutoutStep.toNat with
  | 0 => coNop0 s
  | 1 => coForcePos s
  | 2 => coAssert s
  | 4 => coRxEnable s
  | 5 => coRxFlush s
  | 9 => coReadCh1 s
  | 17 => coReadCh2 s
  | 18 => coEnd s
  | _ => coIdle s

/-! ## Meanings -/

/-- CO_NOP0 (R142). -/
def execCoNop0 (s : State) : Result :=
  .next (coNop0 s)

/-- CO_FORCE_POS (R143). -/
def execCoForcePos (s : State) : Result :=
  .next (coForcePos s)

/-- CO_ASSERT (R144). -/
def execCoAssert (s : State) : Result :=
  .next (coAssert s)

/-- CO_RX_ENABLE (R146). -/
def execCoRxEnable (s : State) : Result :=
  .next (coRxEnable s)

/-- CO_RX_FLUSH (R147). -/
def execCoRxFlush (s : State) : Result :=
  .next (coRxFlush s)

/-- CO_READ_CH1 (R148). -/
def execCoReadCh1 (s : State) : Result :=
  .next (coReadCh1 s)

/-- CO_READ_CH2 (R149). -/
def execCoReadCh2 (s : State) : Result :=
  .next (coReadCh2 s)

/-- CO_END (R150). -/
def execCoEnd (s : State) : Result :=
  .next (coEnd s)

/-- CO_IDLE_3 (R145). -/
def execCoIdle3 (s : State) : Result :=
  .next (coIdle s)

/-- CO_IDLE_6 (R145). -/
def execCoIdle6 (s : State) : Result :=
  .next (coIdle s)

/-- CO_IDLE_7 (R145). -/
def execCoIdle7 (s : State) : Result :=
  .next (coIdle s)

/-- CO_IDLE_8 (R145). -/
def execCoIdle8 (s : State) : Result :=
  .next (coIdle s)

/-- CO_IDLE_10 (R145). -/
def execCoIdle10 (s : State) : Result :=
  .next (coIdle s)

/-- CO_IDLE_11 (R145). -/
def execCoIdle11 (s : State) : Result :=
  .next (coIdle s)

/-- CO_IDLE_12 (R145). -/
def execCoIdle12 (s : State) : Result :=
  .next (coIdle s)

/-- CO_IDLE_13 (R145). -/
def execCoIdle13 (s : State) : Result :=
  .next (coIdle s)

/-- CO_IDLE_14 (R145). -/
def execCoIdle14 (s : State) : Result :=
  .next (coIdle s)

/-- CO_IDLE_15 (R145). -/
def execCoIdle15 (s : State) : Result :=
  .next (coIdle s)

/-- CO_IDLE_16 (R145). -/
def execCoIdle16 (s : State) : Result :=
  .next (coIdle s)

end Sys2Proof.Machine
end

