-- ==== Sys2Proof/Machine/Transmit.lean ====
section
/-! DEFINITION. The tick and the DCC transmitter (40_tick R110 to R120), and the meanings of the TX_STATE codes: each
is what a slot (in CUTOUT, a tick) runs when `tx_state` holds it (log 10). -/

namespace Sys2Proof.Machine

/-- `TimeAdvance` (R112). -/
def timeAdvance (s : State) : State :=
  if s.time.msDiv.toNat = s.cfg.ticksPerMs - 1 then s.setTime { ms := s.time.ms + 1, msDiv := 0 }
  else s.setTime { s.time with msDiv := s.time.msDiv + 1 }

/-- `StartHalf(v)`, the one place a half-bit begins (R115). -/
def startHalf (v : Bool) (s : State) : State :=
  (s.setOut { s.out with trackPol := !s.tx.halfSel }).setTx
    { s.tx with longPulse := !v, halfSel := !s.tx.halfSel }

/-- The filler frame: reset frame in programming mode, else idle frame (R114). -/
def fillerFrame (m : Mode) : List Byte :=
  match m with
  | .programming => resetFrame
  | .noRailcom => idleFrame
  | .railcom => idleFrame

/-- READY, the slot holds a frame: copy it out, release the slot, signal `flow_continue` (R114). -/
def takeFrame (s : State) : State :=
  ((s.setTx { s.tx with
      txLen := s.buf.bufLen
      txBytes := s.buf.bufBytes
      txLocoIdx := s.buf.bufLocoIdx }).setBuf { s.buf with bufLen := 0 }).setOut
    { s.out with flowContinue := true }

/-- READY, the slot is empty: make a filler frame; `tx_bytes[3..8]` keep their contents (R114). -/
def makeFiller (s : State) : State :=
  s.setTx { s.tx with
    txLen := 3
    txBytes := storeBytes 0 (fillerFrame s.ctl.mode) s.tx.txBytes
    txLocoIdx := locoNone }

/-- `track_en <- 1` when `booster_on` = 1 (R114). -/
def enableTrack (s : State) : State :=
  if s.ctl.boosterOn then s.setOut { s.out with trackEn := true } else s

/-- `Ready()` (R114). -/
def ready (s : State) : State :=
  let s1 := enableTrack s
  let s2 := if s1.busy then takeFrame s1 else makeFiller s1
  s2.setTx { s2.tx with preCnt := s2.tx.preambleLen, halfSel := false, txState := .preamble }

/-- `PreSlot()` (R116). -/
def preSlot (s : State) : State :=
  let second := s.tx.halfSel
  if 0 < s.tx.preCnt.toNat then
    let s1 := startHalf true s
    if second then s1.setTx { s1.tx with preCnt := s1.tx.preCnt - 1 } else s1
  else
    let s1 := startHalf false s
    if second then s1.setTx { s1.tx with txState := .data, byteIdx := 0, bitIdx := 0 } else s1

/-- `EndOfFrame()` (R120). -/
def endOfFrame (s : State) : State :=
  match s.ctl.mode with
  | .railcom =>
    if s.ctl.cutoutInhibit then s.setTx { s.tx with txState := .ready, preambleLen := preNorc }
    else s.setTx { s.tx with txState := .cutout, cutoutStep := 0, preambleLen := preRc }
  | .programming => s.setTx { s.tx with txState := .ready, preambleLen := prePgm }
  | .noRailcom => s.setTx { s.tx with txState := .ready, preambleLen := preNorc }

/-- The position after a bit whose second half has started (R117). -/
def nextBit (s : State) : State :=
  let last := s.tx.lastByte
  if s.tx.bitIdx.toNat < 7 then s.setTx { s.tx with bitIdx := s.tx.bitIdx + 1 }
  else if s.tx.bitIdx.toNat = 7 then
    if !last || s.cfg.emitEndBit then s.setTx { s.tx with bitIdx := 8 } else endOfFrame s
  else if !last then s.setTx { s.tx with byteIdx := s.tx.byteIdx + 1, bitIdx := 0 }
  else endOfFrame s

/-- `DataSlot()` (R117). -/
def dataSlot (s : State) : State :=
  let second := s.tx.halfSel
  let s1 := startHalf s.tx.dataBit s
  if second then nextBit s1 else s1

/-- `tx_state` = READY in an acting slot: `Ready`, then in the same slot `PreSlot` (R113). -/
def txsReady (s : State) : State :=
  preSlot (ready s)

/-- `Slot()`, the dispatch on `tx_state` in an acting slot; nothing in CUTOUT (R113). -/
def slot (s : State) : State :=
  match s.tx.txState with
  | .ready => txsReady s
  | .preamble => preSlot s
  | .data => dataSlot s
  | .cutout => s

/-- `Divided()`, the half-tick divider and the long pulse (R111). -/
def divided (s : State) : State :=
  if s.tx.halfTick then s.setTx { s.tx with halfTick := false }
  else if s.tx.longPulse then s.setTx { s.tx with halfTick := true, longPulse := false }
  else slot (s.setTx { s.tx with halfTick := true })

/-- What every tick does first: time, then `flow_continue <- 0` (R110). -/
def tickPrologue (s : State) : State :=
  (timeAdvance s).setOut { s.out with flowContinue := false }

/-- What a tick runs after that: a cutout step, or the divided engine (R110). -/
def tickBody (s : State) : State :=
  match s.tx.txState with
  | .cutout => if s.tx.cutoutHeld then divided s else cutoutStep s
  | .ready => divided s
  | .preamble => divided s
  | .data => divided s

/-- `TICK()` (R110). -/
def tick (s : State) : State :=
  tickBody (tickPrologue s)

/-! ## Meanings -/

/-- TICK (R110). -/
def execTick (s : State) : Result :=
  .next (tick s)

/-- READY (R114). -/
def execReady (s : State) : Result :=
  .next (ready s)

/-- PRE_SLOT (R116). -/
def execPreSlot (s : State) : Result :=
  .next (preSlot s)

/-- DATA_SLOT (R117). -/
def execDataSlot (s : State) : Result :=
  .next (dataSlot s)

/-- TXS_READY: what a slot runs with `tx_state` code 0 (R92, R113). -/
def execTxsReady (s : State) : Result :=
  .next (txsReady s)

/-- TXS_PREAMBLE: what a slot runs with `tx_state` code 1 (R92, R113). -/
def execTxsPreamble (s : State) : Result :=
  .next (preSlot s)

/-- TXS_DATA: what a slot runs with `tx_state` code 2 (R92, R113). -/
def execTxsData (s : State) : Result :=
  .next (dataSlot s)

/-- TXS_CUTOUT: what a tick runs with `tx_state` code 3 (R92, R110). -/
def execTxsCutout (s : State) : Result :=
  .next (cutoutStep s)

end Sys2Proof.Machine
end

