-- ==== Sys2Proof/Machine/Dispatch.lean ====
section
/-! DEFINITION. One arm per operation: the meaning of each row of spec/opcode_table.json. -/

namespace Sys2Proof.Machine

def exec (i : Instr) (s : State) : Host.Outcome State Fault Refusal :=
  match i with
  | .tick => Sys2Proof.Machine.execTick s
  | .ready => Sys2Proof.Machine.execReady s
  | .preSlot => Sys2Proof.Machine.execPreSlot s
  | .dataSlot => Sys2Proof.Machine.execDataSlot s
  | .hamdec b => Sys2Proof.Machine.execHamdec b s
  | .ch1dec raw => Sys2Proof.Machine.execCh1dec raw s
  | .ch2dec raw idx => Sys2Proof.Machine.execCh2dec raw idx s
  | .assemble a payload => Sys2Proof.Machine.execAssemble a payload s
  | .submit idx a payload => Sys2Proof.Machine.execSubmit idx a payload s
  | .setMode m => Sys2Proof.Machine.execSetMode m s
  | .getMode => Sys2Proof.Machine.execGetMode s
  | .boosterOn => Sys2Proof.Machine.execBoosterOn s
  | .boosterOff => Sys2Proof.Machine.execBoosterOff s
  | .setCutoutInhibit v => Sys2Proof.Machine.execSetCutoutInhibit v s
  | .getRc1Addr => Sys2Proof.Machine.execGetRc1Addr s
  | .getRc2Rate idx => Sys2Proof.Machine.execGetRc2Rate idx s
  | .getRc2Age idx => Sys2Proof.Machine.execGetRc2Age idx s
  | .getCv => Sys2Proof.Machine.execGetCv s
  | .clrCv => Sys2Proof.Machine.execClrCv s
  | .getXpom q => Sys2Proof.Machine.execGetXpom q s
  | .clrXpom q => Sys2Proof.Machine.execClrXpom q s
  | .getDyn => Sys2Proof.Machine.execGetDyn s
  | .clrDyn => Sys2Proof.Machine.execClrDyn s
  | .getRc2Addr => Sys2Proof.Machine.execGetRc2Addr s
  | .clrRc2Addr => Sys2Proof.Machine.execClrRc2Addr s
  | .getBufBusy => Sys2Proof.Machine.execGetBufBusy s
  | .getMs => Sys2Proof.Machine.execGetMs s
  | .rxbyte b => Sys2Proof.Machine.execRxbyte b s
  | .coNop0 => Sys2Proof.Machine.execCoNop0 s
  | .coForcePos => Sys2Proof.Machine.execCoForcePos s
  | .coAssert => Sys2Proof.Machine.execCoAssert s
  | .coIdle3 => Sys2Proof.Machine.execCoIdle3 s
  | .coRxEnable => Sys2Proof.Machine.execCoRxEnable s
  | .coRxFlush => Sys2Proof.Machine.execCoRxFlush s
  | .coIdle6 => Sys2Proof.Machine.execCoIdle6 s
  | .coIdle7 => Sys2Proof.Machine.execCoIdle7 s
  | .coIdle8 => Sys2Proof.Machine.execCoIdle8 s
  | .coReadCh1 => Sys2Proof.Machine.execCoReadCh1 s
  | .coIdle10 => Sys2Proof.Machine.execCoIdle10 s
  | .coIdle11 => Sys2Proof.Machine.execCoIdle11 s
  | .coIdle12 => Sys2Proof.Machine.execCoIdle12 s
  | .coIdle13 => Sys2Proof.Machine.execCoIdle13 s
  | .coIdle14 => Sys2Proof.Machine.execCoIdle14 s
  | .coIdle15 => Sys2Proof.Machine.execCoIdle15 s
  | .coIdle16 => Sys2Proof.Machine.execCoIdle16 s
  | .coReadCh2 => Sys2Proof.Machine.execCoReadCh2 s
  | .coEnd => Sys2Proof.Machine.execCoEnd s
  | .txsReady => Sys2Proof.Machine.execTxsReady s
  | .txsPreamble => Sys2Proof.Machine.execTxsPreamble s
  | .txsData => Sys2Proof.Machine.execTxsData s
  | .txsCutout => Sys2Proof.Machine.execTxsCutout s
  | .modeNoRailcom => Sys2Proof.Machine.execModeNoRailcom s
  | .modeRailcom => Sys2Proof.Machine.execModeRailcom s
  | .modeProgramming => Sys2Proof.Machine.execModeProgramming s
  | .modeReserved3 => Sys2Proof.Machine.execModeReserved3 s
  | .rc1AdrHigh val => Sys2Proof.Machine.execRc1AdrHigh val s
  | .rc1AdrLow val => Sys2Proof.Machine.execRc1AdrLow val s
  | .rc2Pom val => Sys2Proof.Machine.execRc2Pom val s
  | .rc2AdrHigh val => Sys2Proof.Machine.execRc2AdrHigh val s
  | .rc2AdrLow val => Sys2Proof.Machine.execRc2AdrLow val s
  | .rc2Dyn val sub => Sys2Proof.Machine.execRc2Dyn val sub s
  | .rc2DynNosub val => Sys2Proof.Machine.execRc2DynNosub val s
  | .rc2Xpom0 b0 b1 b2 b3 => Sys2Proof.Machine.execRc2Xpom0 b0 b1 b2 b3 s
  | .rc2Xpom1 b0 b1 b2 b3 => Sys2Proof.Machine.execRc2Xpom1 b0 b1 b2 b3 s
  | .rc2Xpom2 b0 b1 b2 b3 => Sys2Proof.Machine.execRc2Xpom2 b0 b1 b2 b3 s
  | .rc2Xpom3 b0 b1 b2 b3 => Sys2Proof.Machine.execRc2Xpom3 b0 b1 b2 b3 s
  | .rc2Unknown3 payload => Sys2Proof.Machine.execRc2Unknown3 payload s
  | .rc2Unknown4 payload => Sys2Proof.Machine.execRc2Unknown4 payload s
  | .rc2Unknown5 payload => Sys2Proof.Machine.execRc2Unknown5 payload s
  | .rc2Unknown6 payload => Sys2Proof.Machine.execRc2Unknown6 payload s
  | .rc2Unknown12 payload => Sys2Proof.Machine.execRc2Unknown12 payload s
  | .rc2Unknown13 payload => Sys2Proof.Machine.execRc2Unknown13 payload s
  | .rc2Unknown14 payload => Sys2Proof.Machine.execRc2Unknown14 payload s
  | .rc2Unknown15 payload => Sys2Proof.Machine.execRc2Unknown15 payload s
  | .rcData00 => Sys2Proof.Machine.execRcData00 s
  | .rcData01 => Sys2Proof.Machine.execRcData01 s
  | .rcData02 => Sys2Proof.Machine.execRcData02 s
  | .rcData03 => Sys2Proof.Machine.execRcData03 s
  | .rcData04 => Sys2Proof.Machine.execRcData04 s
  | .rcData05 => Sys2Proof.Machine.execRcData05 s
  | .rcData06 => Sys2Proof.Machine.execRcData06 s
  | .rcData07 => Sys2Proof.Machine.execRcData07 s
  | .rcData08 => Sys2Proof.Machine.execRcData08 s
  | .rcData09 => Sys2Proof.Machine.execRcData09 s
  | .rcData0A => Sys2Proof.Machine.execRcData0A s
  | .rcData0B => Sys2Proof.Machine.execRcData0B s
  | .rcData0C => Sys2Proof.Machine.execRcData0C s
  | .rcData0D => Sys2Proof.Machine.execRcData0D s
  | .rcData0E => Sys2Proof.Machine.execRcData0E s
  | .rcData0F => Sys2Proof.Machine.execRcData0F s
  | .rcData10 => Sys2Proof.Machine.execRcData10 s
  | .rcData11 => Sys2Proof.Machine.execRcData11 s
  | .rcData12 => Sys2Proof.Machine.execRcData12 s
  | .rcData13 => Sys2Proof.Machine.execRcData13 s
  | .rcData14 => Sys2Proof.Machine.execRcData14 s
  | .rcData15 => Sys2Proof.Machine.execRcData15 s
  | .rcData16 => Sys2Proof.Machine.execRcData16 s
  | .rcData17 => Sys2Proof.Machine.execRcData17 s
  | .rcData18 => Sys2Proof.Machine.execRcData18 s
  | .rcData19 => Sys2Proof.Machine.execRcData19 s
  | .rcData1A => Sys2Proof.Machine.execRcData1A s
  | .rcData1B => Sys2Proof.Machine.execRcData1B s
  | .rcData1C => Sys2Proof.Machine.execRcData1C s
  | .rcData1D => Sys2Proof.Machine.execRcData1D s
  | .rcData1E => Sys2Proof.Machine.execRcData1E s
  | .rcData1F => Sys2Proof.Machine.execRcData1F s
  | .rcData20 => Sys2Proof.Machine.execRcData20 s
  | .rcData21 => Sys2Proof.Machine.execRcData21 s
  | .rcData22 => Sys2Proof.Machine.execRcData22 s
  | .rcData23 => Sys2Proof.Machine.execRcData23 s
  | .rcData24 => Sys2Proof.Machine.execRcData24 s
  | .rcData25 => Sys2Proof.Machine.execRcData25 s
  | .rcData26 => Sys2Proof.Machine.execRcData26 s
  | .rcData27 => Sys2Proof.Machine.execRcData27 s
  | .rcData28 => Sys2Proof.Machine.execRcData28 s
  | .rcData29 => Sys2Proof.Machine.execRcData29 s
  | .rcData2A => Sys2Proof.Machine.execRcData2A s
  | .rcData2B => Sys2Proof.Machine.execRcData2B s
  | .rcData2C => Sys2Proof.Machine.execRcData2C s
  | .rcData2D => Sys2Proof.Machine.execRcData2D s
  | .rcData2E => Sys2Proof.Machine.execRcData2E s
  | .rcData2F => Sys2Proof.Machine.execRcData2F s
  | .rcData30 => Sys2Proof.Machine.execRcData30 s
  | .rcData31 => Sys2Proof.Machine.execRcData31 s
  | .rcData32 => Sys2Proof.Machine.execRcData32 s
  | .rcData33 => Sys2Proof.Machine.execRcData33 s
  | .rcData34 => Sys2Proof.Machine.execRcData34 s
  | .rcData35 => Sys2Proof.Machine.execRcData35 s
  | .rcData36 => Sys2Proof.Machine.execRcData36 s
  | .rcData37 => Sys2Proof.Machine.execRcData37 s
  | .rcData38 => Sys2Proof.Machine.execRcData38 s
  | .rcData39 => Sys2Proof.Machine.execRcData39 s
  | .rcData3A => Sys2Proof.Machine.execRcData3A s
  | .rcData3B => Sys2Proof.Machine.execRcData3B s
  | .rcData3C => Sys2Proof.Machine.execRcData3C s
  | .rcData3D => Sys2Proof.Machine.execRcData3D s
  | .rcData3E => Sys2Proof.Machine.execRcData3E s
  | .rcData3F => Sys2Proof.Machine.execRcData3F s
  | .rcAck0F => Sys2Proof.Machine.execRcAck0F s
  | .rcAckF0 => Sys2Proof.Machine.execRcAckF0 s
  | .rcAckF8Remap => Sys2Proof.Machine.execRcAckF8Remap s
  | .rcNack => Sys2Proof.Machine.execRcNack s
  | .rcRsv1 => Sys2Proof.Machine.execRcRsv1 s
  | .rcRsv2 => Sys2Proof.Machine.execRcRsv2 s
  | .rcRsv3 => Sys2Proof.Machine.execRcRsv3 s
  | .rcInvalid b => Sys2Proof.Machine.execRcInvalid b s

end Sys2Proof.Machine
end

