-- ==== Sys2Proof/Machine/Agents.lean ====
section
/-! DEFINITION. The agents and their turns (00_scope R7, 20_memory R72, R73, 44_packet_buffer R213, 60_exceptions R290,
R294, 70_reset R310): which operation the next step runs. -/

namespace Sys2Proof.Machine

/-- The operations the foreground port offers: those of 44_packet_buffer and 45_control_and_accessors (00_scope R7,
30_encoding R97, 60_exceptions R294). DESIGN CHOICE (log 31): ASSEMBLE is one of them on its own, although R97 lists it
as "(inside `submit_packet`)", and so are the MODE rows, which mean SET_MODE (log 11). -/
def isForeground (i : Instr) : Bool :=
  match i with
  | .assemble _ _ => true
  | .submit _ _ _ => true
  | .setMode _ => true
  | .getMode => true
  | .boosterOn => true
  | .boosterOff => true
  | .setCutoutInhibit _ => true
  | .getRc1Addr => true
  | .getRc2Rate _ => true
  | .getRc2Age _ => true
  | .getCv => true
  | .clrCv => true
  | .getXpom _ => true
  | .clrXpom _ => true
  | .getDyn => true
  | .clrDyn => true
  | .getRc2Addr => true
  | .clrRc2Addr => true
  | .getBufBusy => true
  | .getMs => true
  | .modeNoRailcom => true
  | .modeRailcom => true
  | .modeProgramming => true
  | .modeReserved3 => true
  | _ => false

/-- The hold: a SUBMIT that is not refused, on a full slot, stays pending (R213). -/
def held (i : Instr) (s : State) : Bool :=
  match i with
  | .submit _ a payload => !submitRefused a payload && s.busy
  | _ => false

/-- The first operation of the foreground runs, unless it is held: then it stays first, and everything behind it waits
(R213). An operation the port does not offer has no effect (R294; log 31). -/
def fgRequest (i : Instr) (rest : List Invocation) (s : State) : Result :=
  if !isForeground i then .next (respond .notOffered (s.setFgQueue rest))
  else if held i s then .next s
  else exec i (s.setFgQueue rest)

/-- The foreground's turn. With nothing to do it does nothing (log 3). A request that is no operation is refused: no
register changes (R282, R287; log 28). -/
def fgTurn (s : State) : Result :=
  match s.fgQueue with
  | [] => .next s
  | inv :: rest =>
    match decode inv with
    | .error e => .next (respond (.rejected e) (s.setFgQueue rest))
    | .ok i => fgRequest i rest s

/-- A cycle with `rst` = 1: every register and table entry at its reset value, and nothing else happens (R310); the
parameters are not touched (R313), and what the agents are still going to do is no register (log 9). -/
def rstTurn (s : State) : State :=
  ((State.resetWith s.cfg).setTurns s.turns).setFgQueue s.fgQueue

/-- The operation port: the operation invoked there runs next (log 4). A held SUBMIT waits while ticks pass (log 30). A
request that is no operation is refused: no register changes (R282, R287; log 28). -/
def opTurn (inv : Invocation) (s : State) : Result :=
  match decode inv with
  | .error e => .next (respond (.rejected e) (s.setOpPort none))
  | .ok i => if held i s then exec .tick s else exec i (s.setOpPort none)

/-- The turn of the agent that comes next; TICK when no turn is listed (log 2). -/
def agentTurn (s : State) : Result :=
  match s.turns with
  | [] => exec .tick s
  | .tick :: rest => exec .tick (s.setTurns rest)
  | .fg :: rest => fgTurn (s.setTurns rest)
  | .rx b :: rest => exec (.rxbyte b) (s.setTurns rest)
  | .rst :: rest => .next (rstTurn (s.setTurns rest))

/-- One step: the operation port first, then the agents. -/
def nextStep (s : State) : Result :=
  match s.opPort with
  | some inv => opTurn inv s
  | none => agentTurn s

/-- Placing a table word where the next step takes it. -/
def placeTableWord (s : State) (nbits w : Nat) : State :=
  s.setOpPort (some (tableInvocation nbits w))

end Sys2Proof.Machine
end

