-- ==== Sys2Proof/Machine/Boundary.lean ====
section
/-! DEFINITION. The packets of the excluded foreground software that the spec gives byte for byte (46_boundary R261 to
R264), as the SUBMIT each hands to DCCCORE. They add no state and no step (log 26). -/

namespace Sys2Proof.Machine

/-- The SUBMIT of a frame with payload `payload`. -/
def submitInvocation (idx : BitVec 8) (a : BitVec 16) (payload : List Byte) : Invocation :=
  encode (.submit idx a payload)

/-- The 28-step speed data byte: `0x40 OR (dir << 5) OR ((speed AND 1) << 4) OR ((speed AND 0x1F) >> 1)` (R262). -/
def speed28Byte (dir : Bool) (speed : BitVec 5) : Byte :=
  0x40 ||| (if dir then 0x20 else 0) ||| ((speed.setWidth 8 &&& 1) <<< 4) ||| ((speed.setWidth 8 &&& 0x1F) >>> 1)

/-- `send_speed_28`: one SUBMIT of that byte with the loco's address (R262). -/
def sendSpeed28 (idx : BitVec 8) (a : BitVec 16) (dir : Bool) (speed : BitVec 5) : Invocation :=
  submitInvocation idx a [speed28Byte dir speed]

/-- First accessory byte: `0x80 OR ((swaddr >> 2) AND 0x3F)` (R264). -/
def accessoryByte1 (swaddr : BitVec 16) : Byte :=
  0x80 ||| ((swaddr >>> 2) &&& 0x3F).setWidth 8

/-- Second accessory byte: `0x80 OR (((NOT swaddr) >> 4) AND 0x70) OR 0x08 OR ((swaddr AND 3) << 1) OR state`; with the
0x08 cleared it deactivates the output, which is general knowledge (R264, GK8). -/
def accessoryByte2 (swaddr : BitVec 16) (activate state : Bool) : Byte :=
  0x80 ||| (((~~~swaddr) >>> 4) &&& 0x70).setWidth 8 ||| (if activate then 0x08 else 0) |||
    (((swaddr &&& 3) <<< 1).setWidth 8) ||| (if state then 1 else 0)

/-- `base_switch_set(addr, switchNumber)`: `swaddr = addr + 3`, no separate address bytes (R264). DESIGN CHOICE (log 26):
R264 gives the SUBMIT no loco index, so `idx` is an argument; it does not say how `switchNumber` (R260) enters the bytes,
so the builder has no such operand and takes the `state` bit, which R264 does place, as its own. -/
def baseSwitchSet (idx : BitVec 8) (addr : BitVec 16) (state : Bool) : Invocation :=
  submitInvocation idx broadcast [accessoryByte1 (addr + 3), accessoryByte2 (addr + 3) true state]

/-- `base_switch_reset(addr, switchNumber)`: the same bytes with the activate bit cleared (R264, GK8). DESIGN CHOICE
(log 26): index and `state` are arguments as in `baseSwitchSet`, and there is no `switchNumber`. -/
def baseSwitchReset (idx : BitVec 8) (addr : BitVec 16) (state : Bool) : Invocation :=
  submitInvocation idx broadcast [accessoryByte1 (addr + 3), accessoryByte2 (addr + 3) false state]

/-- The reset broadcast, the same three bytes as the reset filler, with the index R261 names. That `reset()` is built so
is not in the source (R261; log 26). -/
def resetBroadcast : Invocation :=
  submitInvocation locoNone broadcast [0x00, 0x00]

end Sys2Proof.Machine
end

