-- ==== Sys2Proof/Safety.lean ====
section
/-! DEFINITION. The terms in which claims about DCCCORE are stated: the invariant of 10_state R42, the bit sequence and
the waveform of a frame (30_encoding R80, R81), runs, and what a received channel-2 frame counts as. -/

namespace Sys2Proof.Machine

/-! ## The invariant (10_state R42) -/

/-- The sequencer position stays inside its ranges (R42 (a)). -/
structure Tx.InRange (t : Tx) : Prop where
  byteIdx : t.byteIdx.toNat ≤ 8
  bitIdx : t.bitIdx.toNat ≤ 8
  cutoutStep : t.cutoutStep.toNat ≤ 18
  preCnt : t.preCnt.toNat ≤ 20
  preambleLen : t.preambleLen = preNorc ∨ t.preambleLen = preRc ∨ t.preambleLen = prePgm

/-- Once READY has run, `tx_len` is a frame length, and in DATA the byte being sent is one of the frame's (R42 (b)). -/
structure Tx.HoldsFrame (t : Tx) : Prop where
  started : t.txState ≠ .ready → lenMin ≤ t.txLen.toNat ∧ t.txLen.toNat ≤ lenMax
  sending : t.txState = .data → t.byteIdx.toNat < t.txLen.toNat

/-- A long pulse is pending only where a zero-valued half-bit can have started: in the preamble state only during the
first half of the start bit, in CUTOUT only before step 0 (R42 (f), 40_tick R116, 41_cutout R140). -/
structure Tx.LongPulseOfZero (t : Tx) : Prop where
  inPreamble : t.longPulse = true → t.txState = .preamble → t.preCnt = 0 ∧ t.halfSel = true
  inCutout : t.longPulse = true → t.txState = .cutout → t.cutoutStep = 0

/-- The counters of an entry: responses never pass commands, commands never pass the window (R42 (e)), and the slot
being filled is not full between two commands (43_railcom R193). -/
structure StatEntry.Counted (e : StatEntry) : Prop where
  rsp0 : e.rsp0.toNat ≤ e.cmd0.toNat
  rsp1 : e.rsp1.toNat ≤ e.cmd1.toNat
  cmd0 : e.cmd0.toNat ≤ window
  cmd1 : e.cmd1.toNat ≤ window
  filling : (e.cmdCnt e.active).toNat < window

/-- The invariant of R42 with what its proof needs: the prescaler and the FIFO in range (10_state R30, R38), the sparse
tables in canonical form and inside N_LOCO (20_memory R64, log 15), legal parameters (00_scope R9), and no operation at
the model's operation port (log 4). -/
structure Inv (s : State) : Prop where
  position : s.tx.InRange
  frame : s.tx.HoldsFrame
  longPulse : s.tx.LongPulseOfZero
  slotLen : s.buf.bufLen = 0 ∨ (lenMin ≤ s.buf.bufLen.toNat ∧ s.buf.bufLen.toNat ≤ lenMax)
  cutoutPowered : s.out.cutoutAct = true → s.ctl.boosterOn = true
  receiverPowered : s.out.rxEn = true → s.ctl.boosterOn = true
  statForm : Memory.wf StatEntry.zero s.stat
  statEntries : ∀ p ∈ s.stat, p.1 < s.cfg.nLoco ∧ p.2.Counted
  locoAddrForm : Memory.wf broadcast s.locoAddr
  locoAddrEntries : ∀ p ∈ s.locoAddr, p.1 < s.cfg.nLoco
  prescaler : s.time.msDiv.toNat < s.cfg.ticksPerMs
  fifo : s.rxFifo.length ≤ s.cfg.rxDepth
  parameters : s.cfg.legal = true
  portIdle : s.opPort = none

/-! ## The frame on the wire -/

/-- A byte's bits, bit 7 first (30_encoding R80). -/
def byteBits (b : Byte) : List Bool :=
  [b.getLsbD 7, b.getLsbD 6, b.getLsbD 5, b.getLsbD 4, b.getLsbD 3, b.getLsbD 2, b.getLsbD 1, b.getLsbD 0]

/-- The bytes of a frame with a 0 delimiter between every two, and the end bit if there is one (R80). -/
def payloadBits (endBit : Bool) : List Byte → List Bool
  | [] => []
  | [b] => byteBits b ++ (if endBit then [true] else [])
  | b :: c :: rest => byteBits b ++ [false] ++ payloadBits endBit (c :: rest)

/-- Format TRACK_FRAME: `p` one bits, the start bit, the bytes (R80). -/
def frameBits (p : Nat) (endBit : Bool) (bytes : List Byte) : List Bool :=
  List.replicate p true ++ [false] ++ payloadBits endBit bytes

/-- Format BIT_CELL, polarity by ticks: `P2 N2` for a one, `P4 N4` for a zero (R81). -/
def bitWave (v : Bool) : List Bool :=
  if v then [true, true, false, false] else [true, true, true, true, false, false, false, false]

/-- The waveform of a frame. -/
def frameWave (p : Nat) (endBit : Bool) (bytes : List Byte) : List Bool :=
  (frameBits p endBit bytes).flatMap bitWave

/-- The frame the next READY will send: the pending one, else the filler (40_tick R114). -/
def State.nextFrame (s : State) : List Byte :=
  if s.busy then s.buf.bufBytes.toList.take s.buf.bufLen.toNat else fillerFrame s.ctl.mode

/-- `track_pol` after each of the next `n` steps, as long as they lead on. -/
def polarities : Nat → State → List Bool
  | 0, _ => []
  | n + 1, s =>
    match step s with
    | .next t => t.out.trackPol :: polarities n t
    | .fault _ => []
    | .refused _ => []

/-! ## Runs -/

/-- The state after `n` steps, as long as they lead on. -/
def State.runSteps : Nat → State → Option State
  | 0, s => some s
  | n + 1, s =>
    match step s with
    | .next t => State.runSteps n t
    | .fault _ => none
    | .refused _ => none

/-- The agent whose turn is next is TICK (log 2). -/
def State.tickNext (s : State) : Prop :=
  s.turns = [] ∨ s.turns.head? = some .tick

/-- Nothing but ticks comes: no turn of another agent is listed and no operation is invoked directly. -/
def State.onlyTicks (s : State) : Prop :=
  s.turns = [] ∧ s.opPort = none

/-- The next tick starts a slot that finds READY (40_tick R111, R113). -/
def State.atReadySlot (s : State) : Prop :=
  s.tx.txState = .ready ∧ s.tx.halfTick = false ∧ s.tx.longPulse = false

/-- Time after a tick: `ms` moves on every TICKS_PER_MS-th tick (40_tick R112). -/
def Time.ticked (ticksPerMs : Nat) (t : Time) : Time :=
  if t.msDiv.toNat = ticksPerMs - 1 then ⟨t.ms + 1, 0⟩ else ⟨t.ms, t.msDiv + 1⟩

/-- What every tick has done before it comes to the sequencer: time, and `flow_continue` cleared (40_tick R110). -/
def State.ticked (s : State) : State :=
  { s with time := s.time.ticked s.cfg.ticksPerMs, out.flowContinue := false }

/-- The tick runs the divided engine: outside CUTOUT, or in it while a long last half-bit holds it (R110). -/
def State.divides (s : State) : Prop :=
  s.tx.txState ≠ .cutout ∨ (s.tx.cutoutStep = 0 ∧ s.tx.longPulse = true)

/-- The fields of State that are registers, tables or queues of the spec are the same. -/
def State.sameHardware (s t : State) : Prop :=
  t.tx = s.tx ∧ t.out = s.out ∧ t.ctl = s.ctl ∧ t.buf = s.buf ∧ t.time = s.time ∧ t.rc1 = s.rc1 ∧ t.rc2 = s.rc2 ∧
    t.xpom = s.xpom ∧ t.stat = s.stat ∧ t.locoAddr = s.locoAddr ∧ t.rxFifo = s.rxFifo ∧ t.cfg = s.cfg

/-! ## Received frames -/

/-- A channel-2 read counts a command and nothing else (43_railcom R196): no byte or more than six, an INVALID symbol,
one data symbol alone, or an XPOM identifier without six symbols. -/
def commandOnly (raw : List Byte) : Bool :=
  raw.length == 0 || decide (rc2Max < raw.length) || (raw.map hamDec).any isInvalid ||
    ((raw.map hamDec).all (fun d => !notData d) &&
      match raw.map hamDec with
      | [_] => true
      | d0 :: _ => decide (8 ≤ (dgId d0).toNat) && decide ((dgId d0).toNat ≤ 11) && raw.length != 6
      | [] => true)

/-- The valid symbols of a channel-2 read, none where its length or a byte is invalid (R176, R177). -/
def validSymbols (raw : List Byte) : List (BitVec 8) :=
  if decide (rc2Max < raw.length) || (raw.map hamDec).any isInvalid then [] else raw.map hamDec

/-- The reads that count as a response (R196): exactly one sentinel; or only data symbols, two or more, with identifier
0, 1, 2 or 7, or six with identifier 8..11. -/
def isResponse (raw : List Byte) : Bool :=
  match (validSymbols raw).countP notData with
  | 1 => true
  | 0 =>
    match validSymbols raw with
    | d0 :: _ :: _ =>
      [0, 1, 2, 7].contains (dgId d0).toNat ||
        (decide (8 ≤ (dgId d0).toNat) && decide ((dgId d0).toNat ≤ 11) && (validSymbols raw).length == 6)
    | _ => false
  | _ => false

/-- The channel-2 decodes of a list of reads, one after the other, all for one loco index. -/
def decodeAll (idx : BitVec 8) : List (List Byte) → State → State
  | [], s => s
  | raw :: rest, s => decodeAll idx rest (ch2Decode raw idx s)

/-- A symbol carries data: below 0x40 (30_encoding R83). -/
def isDataByte (b : Byte) : Bool :=
  !notData (hamDec b)

/-- The 12-bit datagram of two data symbols, first received most significant (R84). -/
def datagram12 (d0 d1 : BitVec 8) : Nat :=
  d0.toNat * 2 ^ 6 + d1.toNat

/-- The 18-bit datagram of three (R87). -/
def datagram18 (d0 d1 d2 : BitVec 8) : Nat :=
  datagram12 d0 d1 * 2 ^ 6 + d2.toNat

/-- The 36-bit datagram of six (R88). -/
def datagram36 (d0 d1 d2 d3 d4 d5 : BitVec 8) : Nat :=
  ((datagram18 d0 d1 d2 * 2 ^ 6 + d3.toNat) * 2 ^ 6 + d4.toNat) * 2 ^ 6 + d5.toNat

end Sys2Proof.Machine
end

