-- ==== Sys2Proof/Certificates/Slice0/Obligations.lean ====
section
/-! DEFINITION. The statements about DCCCORE: what reset, the decoder, the step, every operation, the transmitter, the
cutout, the channel decoders, the packet buffer and the accessors do. -/

open Sys2Proof Sys2Proof.Machine

/-- For every choice of the parameters, the reset state holds 0 in every register and every statistics entry, except
preamble_len = 12, buf_loco_idx = tx_loco_idx = 0xFF, every loco_addr = 0xFFFF, and an empty rx_fifo. The spec marks
every one of these values as its own decision D26 (log 8). State.reset is that state with the parameter values the
spec suggests, which is the model's choice (log 1). Rests on spec/10_state.md section 11, spec/92_eei_decisions.md
D26. -/
def Obligations.ResetLeavesTheValuesOfTheSpec : Prop :=
  State.reset = State.resetWith { ticksPerMs := 34, nLoco := 64, rxDepth := 8, emitEndBit := false } ∧
  ∀ cfg : Config,
    (State.resetWith cfg).tx =
      { txLen := 0, txBytes := Vector.replicate 9 0, txLocoIdx := 0xFF, txState := .ready, byteIdx := 0, bitIdx := 0,
        halfSel := false, cutoutStep := 0, preCnt := 0, preambleLen := 12, halfTick := false, longPulse := false } ∧
    (State.resetWith cfg).out =
      { trackPol := false, trackEn := false, cutoutAct := false, rxEn := false, flowContinue := false } ∧
    (State.resetWith cfg).ctl = { mode := .noRailcom, boosterOn := false, cutoutInhibit := false } ∧
    (State.resetWith cfg).buf = { bufLen := 0, bufBytes := Vector.replicate 9 0, bufLocoIdx := 0xFF } ∧
    (State.resetWith cfg).time = { ms := 0, msDiv := 0 } ∧
    (State.resetWith cfg).rc1 =
      { adrHi := 0, adrLo := 0, hiValid := false, loValid := false, addr := 0, addrValid := false, stamp := 0 } ∧
    (State.resetWith cfg).rc2 =
      { adrHi := 0, adrLo := 0, hiValid := false, loValid := false, addr := 0, addrValid := false, cv := 0,
        cvValid := false, dynVal := 0, dynSub := 0, dynValid := false, dynHasSub := false } ∧
    (∀ q, (State.resetWith cfg).xpomAt q = { b0 := 0, b1 := 0, b2 := 0, b3 := 0, valid := false }) ∧
    (∀ idx, (State.resetWith cfg).statAt idx =
      { cmd0 := 0, cmd1 := 0, rsp0 := 0, rsp1 := 0, active := false, lastCmdMs := 0, lastRspMs := 0 }) ∧
    (∀ idx, (State.resetWith cfg).locoAddrAt idx = 0xFFFF) ∧
    (State.resetWith cfg).rxFifo = []

/-- For all parameters in the ranges of R9 (and TICKS_PER_MS at most 65536, because ms_div has 16 bits), the reset
state satisfies Inv; so does State.reset, whose parameters are the suggested ones (log 1). Rests on spec/10_state.md
section 12, spec/10_state.md section 11. -/
def Obligations.ResetSatisfiesTheInvariant : Prop :=
  (∀ cfg : Config, cfg.legal = true → Inv (State.resetWith cfg)) ∧ Inv State.reset

/-- When the next turn is an rst cycle, the step answers the reset state with the same parameters. No TICK step, no FG
operation and no RxByte runs in it. The turns that follow and the foreground's queue stay listed, which is the model's
choice (log 9): they are no registers. Rests on spec/70_reset_and_hazards.md section 1, spec/92_eei_decisions.md D26.
-/
def Obligations.ResetCycleSetsEverythingAndDoesNothingElse : Prop :=
  ∀ (s : State) (rest : List Turn), s.opPort = none → s.turns = .rst :: rest →
    step s = .next { State.resetWith s.cfg with turns := rest, fgQueue := s.fgQueue }

/-- One or more words of every format, written out from the tables of the spec (cutout steps R94, tx_state R92, mode
R93, received bytes R161 to R164, datagrams R84, R87, R88 with the symbol examples of 95_test_vectors), decode to
their operation. The received bytes and the datagram layouts are the spec's general knowledge GK1 to GK4 (log 23). The
last word is no encoding of the spec: that SUBMIT is invoked as index, address, length, payload is the model's choice
(log 21). Rests on spec/30_encoding.md section 4, spec/30_encoding.md section 5, spec/42_hamming_lut.md,
spec/opcode_table.json. -/
def Obligations.WordsOfTheSpecDecodeToTheirOperations : Prop :=
  decode (.word .cutoutStep 0b00000) = .ok .coNop0 ∧ decode (.word .cutoutStep 0b10001) = .ok .coReadCh2 ∧
  decode (.word .cutoutStep 0b10010) = .ok .coEnd ∧ decode (.word .txState 0b11) = .ok .txsCutout ∧
  decode (.word .mode 0b01) = .ok .modeRailcom ∧ decode (.word .rcByte 0b10101100) = .ok .rcData00 ∧
  decode (.word .rcByte 0b11111000) = .ok .rcAckF8Remap ∧ decode (.word .rcByte 0b00000000) = .ok (.rcInvalid 0) ∧
  decode (.word .dg12Ch1 0b000110000100) = .ok (.rc1AdrHigh 0x84) ∧
  decode (.word .dg12Ch2 0b000001001010) = .ok (.rc2Pom 0x4A) ∧
  decode (.word .dg12Ch2 0b001000000000 ) = .ok (.rc2AdrLow 0) ∧
  decode (.word .dg18 0b011100000010000101) = .ok (.rc2Dyn 2 5) ∧
  decode (.word .dg36 0x812345678) = .ok (.rc2Xpom0 0x12 0x34 0x56 0x78) ∧
  decode (.op .submit [5, 3, 1, 0x67]) = .ok (.submit 5 3 [0x67])

/-- For every well-formed operation, all 146 rows with every value of every operand, decode of its encoding answers
that operation. Rests on spec/30_encoding.md section 4, spec/30_encoding.md section 5, spec/42_hamming_lut.md,
spec/opcode_table.json. -/
def Obligations.DecodeOfEncodeIsTheOperation : Prop :=
  ∀ i : Instr, i.wellFormed = true → decode (encode i) = .ok i

/-- Whenever an invocation decodes, the operation it decodes to is well-formed and its encoding is that very
invocation: no two invocations share an operation and no bit or operand is dropped. Rests on spec/30_encoding.md
section 4, spec/30_encoding.md section 5, spec/42_hamming_lut.md, spec/opcode_table.json. -/
def Obligations.EncodeOfDecodeIsTheInvocation : Prop :=
  ∀ (inv : Invocation) (i : Instr), decode inv = .ok i → i.wellFormed = true ∧ encode i = inv

/-- Cutout steps 19..31, channel-1 datagrams with an identifier other than 1 and 2, 12-bit channel-2 datagrams with an
XPOM identifier, 18-bit datagrams other than DYN, 36-bit datagrams other than XPOM and numbers wider than their format
have no row in the table. The decoder rejects each by a name of its own. Rests on spec/30_encoding.md section 5,
spec/30_encoding.md section 6, spec/opcode_table.json. -/
def Obligations.CodesWithoutARowAreRejectedByName : Prop :=
  (∀ n, 19 ≤ n → n < 2 ^ 5 → decode (.word .cutoutStep n) = .error (.reservedCode .cutoutStep n)) ∧
  (∀ n, n < 2 ^ 12 → n / 2 ^ 8 ≠ 1 → n / 2 ^ 8 ≠ 2 → decode (.word .dg12Ch1 n) = .error (.reservedCode .dg12Ch1 n)) ∧
  (∀ n, n < 2 ^ 12 → 8 ≤ n / 2 ^ 8 → n / 2 ^ 8 ≤ 11 → decode (.word .dg12Ch2 n) = .error (.reservedCode .dg12Ch2 n)) ∧
  (∀ n, n < 2 ^ 18 → n / 2 ^ 14 ≠ 7 → decode (.word .dg18 n) = .error (.reservedCode .dg18 n)) ∧
  (∀ n, n < 2 ^ 36 → n / 2 ^ 32 < 8 ∨ 11 < n / 2 ^ 32 → decode (.word .dg36 n) = .error (.reservedCode .dg36 n)) ∧
  (∀ fmt n, 2 ^ fmt.width ≤ n → decode (.word fmt n) = .error (.wordTooWide fmt n))

/-- When an operation is invoked at the model's operation port (log 4), the invocation decodes, and it is no held
SUBMIT, the step is exec of that operation on the state with the port empty; a table word placed by withFetchWord runs
the same way (log 5). With the port empty: a TICK turn runs TICK, and so does an empty list of turns (log 2); an RX
turn runs RXBYTE with its byte; an FG turn runs the first operation of the foreground's queue, if it decodes to an
operation of the foreground port and is no held SUBMIT, and with an empty queue changes nothing but the turns (log 3).
A request that does not decode, at the port or at an FG turn, and a request at an FG turn for an operation the port
does not offer are taken from their place and change nothing else but the answer (log 28, log 31). Rests on
spec/00_scope.md section 3, spec/20_memory.md section 6, spec/30_encoding.md section 8. -/
def Obligations.StepRunsTheDecodedOperation : Prop :=
  (∀ (s : State) (inv : Invocation) (i : Instr), s.opPort = some inv → decode inv = .ok i → held i s = false →
    step s = exec i { s with opPort := none }) ∧
  (∀ (s : State) (nbits w : Nat) (i : Instr), decodeTableWord nbits w = some i →
    step (s.withFetchWord nbits w) = exec i { s with opPort := none }) ∧
  (∀ (s : State) (inv : Invocation) (e : DecodeError), s.opPort = some inv → decode inv = .error e →
    step s = .next { s with opPort := none, response := some (.rejected e) }) ∧
  (∀ s : State, s.opPort = none →
    (s.turns = [] → step s = exec .tick s) ∧
    (∀ rest, s.turns = .tick :: rest → step s = exec .tick { s with turns := rest }) ∧
    (∀ b rest, s.turns = .rx b :: rest → step s = exec (.rxbyte b) { s with turns := rest }) ∧
    (∀ rest inv queue i, s.turns = .fg :: rest → s.fgQueue = inv :: queue → decode inv = .ok i →
      isForeground i = true → held i s = false → step s = exec i { s with turns := rest, fgQueue := queue }) ∧
    (∀ rest inv queue i, s.turns = .fg :: rest → s.fgQueue = inv :: queue → decode inv = .ok i →
      isForeground i = false →
      step s = .next { s with turns := rest, fgQueue := queue, response := some .notOffered }) ∧
    (∀ rest inv queue e, s.turns = .fg :: rest → s.fgQueue = inv :: queue → decode inv = .error e →
      step s = .next { s with turns := rest, fgQueue := queue, response := some (.rejected e) }) ∧
    (∀ rest, s.turns = .fg :: rest → s.fgQueue = [] → step s = .next { s with turns := rest }))

/-- When the frame has 2 to 9 bytes and buf_len is not 0, SUBMIT changes nothing. At an FG turn it stays first in the
foreground's queue, so nothing behind it runs, and the turn is used up (log 3). At the operation port it stays there
and a tick passes instead (the model's choice, log 30). Rests on spec/44_packet_buffer.md section 2, spec/20_memory.md
section 6, spec/92_eei_decisions.md D24. -/
def Obligations.HeldSubmitTakesNoStep : Prop :=
  ∀ (s : State) (idx : BitVec 8) (a : BitVec 16) (payload : List Byte),
    2 ≤ (assemble a payload).length → (assemble a payload).length ≤ 9 → s.buf.bufLen ≠ 0 →
    exec (.submit idx a payload) s = .next s ∧
    (∀ rest queue, s.opPort = none → s.turns = .fg :: rest → s.fgQueue = encode (.submit idx a payload) :: queue →
      step s = .next { s with turns := rest }) ∧
    (s.opPort = some (encode (.submit idx a payload)) → step s = exec .tick s)

/-- The spec infers that no operation of DCCCORE traps and that every step of every agent completes (R287). For every
operation and every state exec answers a next state, with the parameters and the model's port, turns and queue
unchanged. A step from every state answers a next state with the same parameters, whatever stands at the operation
port, in the turns and in the foreground's queue. Rests on spec/60_exceptions.md section 1. -/
def Obligations.EveryOperationCompletes : Prop :=
  (∀ (i : Instr) (s : State), ∃ t, exec i s = .next t ∧ t.cfg = s.cfg ∧ t.opPort = s.opPort ∧ t.turns = s.turns ∧
    t.fgQueue = s.fgQueue) ∧
  (∀ s : State, ∃ t, step s = .next t ∧ t.cfg = s.cfg)

/-- Every tick first advances the time and clears flow_continue (State.ticked). Outside CUTOUT, and in CUTOUT at step
0 while a long half-bit is pending: with half_tick = 1 it only clears half_tick; with half_tick = 0 and long_pulse = 1
it only sets half_tick and clears long_pulse; otherwise it sets half_tick and runs what tx_state selects. The phase
and the slot length are the spec's decisions D7, the prescaler D2. Rests on spec/40_tick_dcc_tx.md section 1,
spec/92_eei_decisions.md D2, spec/92_eei_decisions.md D7. -/
def Obligations.TickRunsTheDividedEngine : Prop :=
  ∀ s : State, s.divides →
    (s.tx.halfTick = true → exec .tick s = .next { s.ticked with tx.halfTick := false }) ∧
    (s.tx.halfTick = false → s.tx.longPulse = true →
      exec .tick s = .next { s.ticked with tx.halfTick := true, tx.longPulse := false }) ∧
    (s.tx.halfTick = false → s.tx.longPulse = false →
      ∀ i, decode (.word .txState s.tx.txState.code.toNat) = .ok i →
        ∃ t, exec i { s.ticked with tx.halfTick := true } = .next t ∧ exec .tick s = .next t)

/-- In CUTOUT, unless it is held at step 0 by a pending long half-bit, a tick advances the time, clears flow_continue
and then runs the operation that decodes from cutout_step. TXS_CUTOUT runs that operation too: that a TX_STATE row
means what runs in that state is the model's reading (DEDUCED, log 10). The codes 19..31, never held by R42, advance
the counter and do nothing else, which is the model's choice (log 18). Rests on spec/40_tick_dcc_tx.md section 1,
spec/41_cutout_sequencer.md section 1, spec/30_encoding.md section 5. -/
def Obligations.TickInCutoutRunsTheStepOfTheTable : Prop :=
  (∀ (s : State) (i : Instr), decode (.word .cutoutStep s.tx.cutoutStep.toNat) = .ok i →
    (∃ t, exec i s = .next t ∧ exec .txsCutout s = .next t) ∧
    (s.tx.txState = .cutout → ¬ (s.tx.cutoutStep = 0 ∧ s.tx.longPulse = true) →
      ∃ t, exec i s.ticked = .next t ∧ exec .tick s = .next t)) ∧
  (∀ s : State, 19 ≤ s.tx.cutoutStep.toNat →
    exec .txsCutout s = .next { s with tx.cutoutStep := s.tx.cutoutStep + 1 })

/-- From any state of the invariant with nothing but ticks coming, any number n of steps answers a state in which ms *
TICKS_PER_MS + ms_div is larger by n, modulo 2^32 * TICKS_PER_MS. The ratio is the parameter D2, the width and the
wrap are D22. Rests on spec/40_tick_dcc_tx.md section 1, spec/92_eei_decisions.md D2, spec/92_eei_decisions.md D22. -/
def Obligations.MillisecondsCountTicks : Prop :=
  ∀ (n : Nat) (s : State), Inv s → s.onlyTicks →
    ∃ t, s.runSteps n = some t ∧ t.time.msDiv.toNat < t.cfg.ticksPerMs ∧ t.cfg = s.cfg ∧
      (t.time.ms.toNat * s.cfg.ticksPerMs + t.time.msDiv.toNat) % (2 ^ 32 * s.cfg.ticksPerMs) =
        (s.time.ms.toNat * s.cfg.ticksPerMs + s.time.msDiv.toNat + n) % (2 ^ 32 * s.cfg.ticksPerMs)

/-- With buf_len not 0, READY copies length, all nine bytes and loco index of the slot, clears buf_len and sets
flow_continue (D29). With buf_len = 0 it sends 00 00 00 in programming mode, else FF 00 FF; tx_bytes[3..8] keep their
contents, the loco index is LOCO_NONE (D31), and the slot and flow_continue are left. Either way the track is enabled
when booster_on = 1 and left otherwise, pre_cnt is loaded from preamble_len, half_sel cleared, and the state becomes
PREAMBLE. Nothing else changes. TXS_READY, what a slot runs in tx_state 0, is READY and then PRE_SLOT (D8); that the
row means this is the model's reading (log 10), and that READY has its effect in every position is the model's choice
(log 14). Rests on spec/40_tick_dcc_tx.md section 1, spec/40_tick_dcc_tx.md section 2, spec/92_eei_decisions.md D8,
spec/92_eei_decisions.md D29, spec/92_eei_decisions.md D31. -/
def Obligations.ReadyFetchesTheFrame : Prop :=
  ∀ s : State,
    (s.buf.bufLen ≠ 0 →
      exec .ready s = .next { s with
        out.trackEn := s.ctl.boosterOn || s.out.trackEn, out.flowContinue := true
        tx.txLen := s.buf.bufLen, tx.txBytes := s.buf.bufBytes, tx.txLocoIdx := s.buf.bufLocoIdx
        tx.preCnt := s.tx.preambleLen, tx.halfSel := false, tx.txState := .preamble
        buf.bufLen := 0 }) ∧
    (s.buf.bufLen = 0 →
      exec .ready s = .next { s with
        out.trackEn := s.ctl.boosterOn || s.out.trackEn
        tx.txLen := 3, tx.txLocoIdx := 0xFF
        tx.txBytes :=
          if s.ctl.mode = .programming then ((s.tx.txBytes.set 0 0x00).set 1 0x00).set 2 0x00
          else ((s.tx.txBytes.set 0 0xFF).set 1 0x00).set 2 0xFF
        tx.preCnt := s.tx.preambleLen, tx.halfSel := false, tx.txState := .preamble }) ∧
    ∃ t u, exec .ready s = .next t ∧ exec .preSlot t = .next u ∧ exec .txsReady s = .next u

/-- With pre_cnt > 0 a half-bit of a one starts and pre_cnt counts down when it is the second half. With pre_cnt = 0 a
half-bit of the zero start bit starts, and the second half leads to DATA at byte 0, bit 0. The first half is POS and
the second NEG, the spec's decision D6. Nothing else changes. That the row TXS_PREAMBLE means PRE_SLOT is the model's
reading (log 10), and that both have their effect in every position is the model's choice (log 14). Rests on
spec/40_tick_dcc_tx.md section 3, spec/40_tick_dcc_tx.md section 4, spec/92_eei_decisions.md D6. -/
def Obligations.PreambleSlotStartsAHalfBit : Prop :=
  ∀ s : State, ∀ i ∈ [Instr.preSlot, .txsPreamble],
    (s.tx.preCnt ≠ 0 →
      exec i s = .next { s with
        out.trackPol := !s.tx.halfSel, tx.longPulse := false, tx.halfSel := !s.tx.halfSel
        tx.preCnt := if s.tx.halfSel then s.tx.preCnt - 1 else s.tx.preCnt }) ∧
    (s.tx.preCnt = 0 → s.tx.halfSel = false →
      exec i s = .next { s with out.trackPol := true, tx.longPulse := true, tx.halfSel := true }) ∧
    (s.tx.preCnt = 0 → s.tx.halfSel = true →
      exec i s = .next { s with
        out.trackPol := false, tx.longPulse := true, tx.halfSel := false
        tx.txState := .data, tx.byteIdx := 0, tx.bitIdx := 0 })

/-- At a position inside the ranges of R42 the bit is bit 7 - bit_idx of the current byte, or after a byte the
delimiter 0, or 1 after the last byte. Its first half is POS and moves nothing. Its second half is NEG and moves to
the next bit, the bit after the byte, or the next byte. After the last bit of the frame it goes to CUTOUT at step 0
with preamble 16 when mode = RAILCOM and cutout_inhibit = 0, else to READY with preamble 20 in programming mode and 12
otherwise (the preamble choice is D12, the polarity D6). Nothing else changes. That the row TXS_DATA means DATA_SLOT
is the model's reading (log 10), and that both have their effect in every tx_state is the model's choice (log 14).
Rests on spec/40_tick_dcc_tx.md section 5, spec/40_tick_dcc_tx.md section 3, spec/92_eei_decisions.md D6,
spec/92_eei_decisions.md D12. -/
def Obligations.DataSlotSendsABitAndMovesOn : Prop :=
  ∀ s : State, s.tx.byteIdx.toNat ≤ 8 → s.tx.bitIdx.toNat ≤ 8 → ∀ i ∈ [Instr.dataSlot, .txsData],
    let last : Bool := decide (s.tx.byteIdx.toNat + 1 = s.tx.txLen.toNat)
    let v : Bool :=
      if s.tx.bitIdx.toNat < 8 then (s.tx.txBytes.toList.getD s.tx.byteIdx.toNat 0).getLsbD (7 - s.tx.bitIdx.toNat)
      else last
    let u : State := { s with out.trackPol := false, tx.longPulse := !v, tx.halfSel := false }
    (s.tx.halfSel = false →
      exec i s = .next { s with out.trackPol := true, tx.longPulse := !v, tx.halfSel := true }) ∧
    (s.tx.halfSel = true → s.tx.bitIdx.toNat < 7 →
      exec i s = .next { u with tx.bitIdx := s.tx.bitIdx + 1 }) ∧
    (s.tx.halfSel = true → s.tx.bitIdx.toNat = 7 → last = false ∨ s.cfg.emitEndBit = true →
      exec i s = .next { u with tx.bitIdx := 8 }) ∧
    (s.tx.halfSel = true → s.tx.bitIdx.toNat = 8 → last = false →
      exec i s = .next { u with tx.byteIdx := s.tx.byteIdx + 1, tx.bitIdx := 0 }) ∧
    (s.tx.halfSel = true → last = true →
      (s.tx.bitIdx.toNat = 7 ∧ s.cfg.emitEndBit = false ∨ s.tx.bitIdx.toNat = 8) →
      (s.ctl.mode = .railcom → s.ctl.cutoutInhibit = false →
        exec i s = .next { u with tx.txState := .cutout, tx.cutoutStep := 0, tx.preambleLen := 16 }) ∧
      (s.ctl.mode = .programming →
        exec i s = .next { u with tx.txState := .ready, tx.preambleLen := 20 }) ∧
      (s.ctl.mode = .noRailcom ∨ s.ctl.mode = .railcom ∧ s.ctl.cutoutInhibit = true →
        exec i s = .next { u with tx.txState := .ready, tx.preambleLen := 12 }))

/-- From any state of the invariant that stands at a READY slot with nothing but ticks coming, the polarity register
shows exactly the waveform of format TRACK_FRAME: preamble_len ones, a zero, every byte of the frame bit 7 first with
a zero between bytes, and the end bit where EMIT_END_BIT = 1 (D5); a one is P2 N2 and a zero P4 N4. The frame is the
pending one, or the filler. R121, which the spec derives; R80, R81. Rests on spec/40_tick_dcc_tx.md section 6,
spec/30_encoding.md section 1, spec/95_test_vectors.md S2, spec/92_eei_decisions.md D5. -/
def Obligations.FrameIsSentBitForBit : Prop :=
  ∀ s : State, Inv s → s.onlyTicks → s.atReadySlot →
    polarities (frameWave s.tx.preambleLen.toNat s.cfg.emitEndBit s.nextFrame).length s =
      frameWave s.tx.preambleLen.toNat s.cfg.emitEndBit s.nextFrame

/-- With nothing at the operation port, a step of any agent leaves tx_len, tx_bytes and tx_loco_idx as they are,
unless it is a tick in a slot that finds READY, or a reset cycle. In particular no SUBMIT changes the frame on the
wire (R77). Rests on spec/20_memory.md section 6, spec/70_reset_and_hazards.md section 1. -/
def Obligations.FrameOnTheWireIsImmutable : Prop :=
  ∀ s t : State, s.opPort = none → step s = .next t → s.turns.head? ≠ some .rst → ¬ (s.tickNext ∧ s.atReadySlot) →
    t.tx.txLen = s.tx.txLen ∧ t.tx.txBytes = s.tx.txBytes ∧ t.tx.txLocoIdx = s.tx.txLocoIdx

/-- With nothing at the operation port, whenever a step changes tx_state it is a reset cycle to READY, or a tick:
READY to PREAMBLE in an acting slot; PREAMBLE to DATA in the slot that starts the second half of the start bit; DATA
to CUTOUT in the slot that starts the second half of the frame's last bit (bit_idx = 7 of the last byte without an end
bit, else 8, or above in states no run reaches), exactly when mode = RAILCOM and cutout_inhibit = 0, and DATA to READY
otherwise; CUTOUT to READY at step 18. The spec derives this table. Rests on spec/40_tick_dcc_tx.md section 6. -/
def Obligations.EveryTransferOfControlIsInTheTable : Prop :=
  ∀ s t : State, s.opPort = none → step s = .next t → t.tx.txState ≠ s.tx.txState →
    (s.turns.head? = some .rst ∧ t.tx.txState = .ready) ∨
    (s.tickNext ∧
      ((s.atReadySlot ∧ t.tx.txState = .preamble) ∨
       (s.tx.halfTick = false ∧ s.tx.longPulse = false ∧ s.tx.halfSel = true ∧
         ((s.tx.txState = .preamble ∧ s.tx.preCnt = 0 ∧ t.tx.txState = .data) ∨
          (s.tx.txState = .data ∧ s.tx.lastByte = true ∧
            (s.tx.bitIdx.toNat = 7 ∧ s.cfg.emitEndBit = false ∨ 8 ≤ s.tx.bitIdx.toNat) ∧
            t.tx.txState = if s.ctl.mode = .railcom ∧ s.ctl.cutoutInhibit = false then .cutout else .ready))) ∨
       (s.tx.txState = .cutout ∧ s.tx.cutoutStep = 18 ∧ t.tx.txState = .ready)))

/-- Two states that agree on the transmitter, the mode, cutout_inhibit, the slot, the time and the parameters agree on
them after a tick, whatever booster_on, the outputs, the received bytes, the RailCom records and the statistics hold.
So the transmitter does not stop when the booster is off (R123, which the spec derives; D10). Rests on
spec/40_tick_dcc_tx.md section 6, spec/92_eei_decisions.md D10. -/
def Obligations.SequencerIgnoresBoosterAndReceiver : Prop :=
  ∀ s s' t t' : State, s'.tx = s.tx → s'.ctl.mode = s.ctl.mode → s'.ctl.cutoutInhibit = s.ctl.cutoutInhibit →
    s'.buf = s.buf → s'.time = s.time → s'.cfg = s.cfg → exec .tick s = .next t → exec .tick s' = .next t' →
    t'.tx = t.tx ∧ t'.buf = t.buf ∧ t'.time = t.time ∧ t'.out.flowContinue = t.out.flowContinue

/-- From any state of the invariant with nothing but ticks coming, buf_len is 0 after some number of ticks, at most
748, or 752 with an end bit. The spec's figure is 746 for a SUBMIT held in a reachable state (R332, which it derives);
the two ticks more cover states of the invariant that no run reaches, which stand in the first half of a preamble bit
on an idle tick. Rests on spec/20_memory.md section 6, spec/70_reset_and_hazards.md section 4, spec/90_conflicts.md
C14. -/
def Obligations.FullSlotIsReleasedInBoundedTicks : Prop :=
  ∀ s : State, Inv s → s.onlyTicks →
    ∃ n t, n ≤ 748 + (if s.cfg.emitEndBit then 4 else 0) ∧ s.runSteps n = some t ∧ t.buf.bufLen = 0

/-- A SUBMIT of a legal frame that stands at the operation port while the slot is full waits while ticks pass (the
model's choice, log 30) and then runs: after at most 749 steps, or 753 with an end bit, the port is empty and the slot
holds its frame. The invariant is asked of the state with the port empty. Rests on spec/20_memory.md section 6,
spec/44_packet_buffer.md section 2, spec/70_reset_and_hazards.md section 4. -/
def Obligations.HeldSubmitRunsWhenTheSlotIsReleased : Prop :=
  ∀ (s : State) (idx : BitVec 8) (a : BitVec 16) (payload : List Byte), Inv { s with opPort := none } →
    2 ≤ (assemble a payload).length → (assemble a payload).length ≤ 9 →
    s.opPort = some (encode (.submit idx a payload)) →
    ∃ n t, n ≤ 749 + (if s.cfg.emitEndBit then 4 else 0) ∧ s.runSteps n = some t ∧ t.opPort = none ∧
      t.buf.bufLocoIdx = idx ∧ t.buf.bufBytes.toList.take t.buf.bufLen.toNat = assemble a payload

/-- For every state of the invariant and every step that leads on, the next state satisfies it: the sequencer
position, the frame lengths, the power of cutout and receiver, the counters of every statistics entry, the prescaler,
the FIFO and the canonical form of the tables. R42, which the spec derives, with what its proof needs. Rests on
spec/10_state.md section 12. -/
def Obligations.EveryStepKeepsTheInvariant : Prop :=
  ∀ s t : State, Inv s → step s = .next t → Inv t

/-- Step 0 only advances. Step 1 sets track_pol, step 2 sets cutout_act, step 4 sets rx_en and step 5 empties rx_fifo,
each only when booster_on = 1. cutout_step becomes 1, 2, 3, 5, 6. Nothing else changes, half_sel included. With
booster_on = 1 the track is not driven after step 2 whatever track_pol holds, and after step 4 a received byte is
appended while there is room. The spec gives each step its effect where cutout_step selects it (R142 to R144, R146,
R147); that it has it in every position is the model's choice (log 14). Rests on spec/41_cutout_sequencer.md section
2. -/
def Obligations.CutoutStepsBeforeTheReads : Prop :=
  ∀ s : State,
    exec .coNop0 s = .next { s with tx.cutoutStep := 1 } ∧
    exec .coForcePos s = .next { s with
      out.trackPol := s.ctl.boosterOn || s.out.trackPol, tx.cutoutStep := 2 } ∧
    exec .coAssert s = .next { s with
      out.cutoutAct := s.ctl.boosterOn || s.out.cutoutAct, tx.cutoutStep := 3 } ∧
    exec .coRxEnable s = .next { s with
      out.rxEn := s.ctl.boosterOn || s.out.rxEn, tx.cutoutStep := 5 } ∧
    exec .coRxFlush s = .next { s with
      rxFifo := if s.ctl.boosterOn then [] else s.rxFifo, tx.cutoutStep := 6 } ∧
    (∀ t, s.ctl.boosterOn = true → exec .coAssert s = .next t → t.driven = false) ∧
    (∀ t b, s.ctl.boosterOn = true → s.rxFifo.length < s.cfg.rxDepth → exec .coRxEnable s = .next t →
      exec (.rxbyte b) t = .next { t with rxFifo := s.rxFifo ++ [b] })

/-- Step 9 with booster_on = 1 empties rx_fifo and runs CH1DEC on what it held. Step 17 with booster_on = 1 empties
rx_fifo, runs CH2DEC on what it held for tx_loco_idx, and clears rx_en. With booster_on = 0 both only advance.
cutout_step becomes 10 and 18. Since step 9 drains the FIFO and leaves what the receiver appended after it, step 17
reads only those later bytes. The spec gives the steps their effect at cutout_step = 9 and 17 (R148, R149); that they
have it in every position is the model's choice (log 14). Rests on spec/41_cutout_sequencer.md section 2,
spec/20_memory.md section 2. -/
def Obligations.CutoutReadStepsDecodeAndDrain : Prop :=
  ∀ s : State,
    (s.ctl.boosterOn = true →
      (∃ u, exec (.ch1dec s.rxFifo) { s with rxFifo := [] } = .next u ∧ u.rxFifo = [] ∧ u.out = s.out ∧
        exec .coReadCh1 s = .next { u with tx.cutoutStep := 10 }) ∧
      (∃ u, exec (.ch2dec s.rxFifo s.tx.txLocoIdx) { s with rxFifo := [] } = .next u ∧ u.rxFifo = [] ∧
        exec .coReadCh2 s = .next { u with out.rxEn := false, tx.cutoutStep := 18 })) ∧
    (s.ctl.boosterOn = false →
      exec .coReadCh1 s = .next { s with tx.cutoutStep := 10 } ∧
      exec .coReadCh2 s = .next { s with tx.cutoutStep := 18 })

/-- Steps 3, 6, 7, 8 and 10 to 16 have no row in the source's table; the spec infers that they have no action and
advance the counter (R145). Step 18 clears cutout_act and empties rx_fifo when booster_on = 1, and in any case goes to
READY with half_tick and cutout_step cleared (that it does so unpowered too, and clears half_tick, is the spec's
decision D10). Nothing else changes. That the steps have their effect in every position is the model's choice (log
14). Rests on spec/41_cutout_sequencer.md section 2, spec/92_eei_decisions.md D10. -/
def Obligations.CutoutIdleStepsAndEnd : Prop :=
  ∀ s : State,
    (∀ i ∈ [Instr.coIdle3, .coIdle6, .coIdle7, .coIdle8, .coIdle10, .coIdle11, .coIdle12, .coIdle13, .coIdle14,
        .coIdle15, .coIdle16],
      exec i s = .next { s with tx.cutoutStep := s.tx.cutoutStep + 1 }) ∧
    exec .coEnd s = .next { s with
      out.cutoutAct := !s.ctl.boosterOn && s.out.cutoutAct
      rxFifo := if s.ctl.boosterOn then [] else s.rxFifo
      tx.txState := .ready, tx.halfTick := false, tx.cutoutStep := 0 }

/-- In CUTOUT with booster_on = 0, at a step within 0..18 that is not held by a long half-bit, a tick advances the
time, clears flow_continue, and changes nothing but cutout_step; at step 18 it sets tx_state to READY and clears
half_tick and cutout_step. R151, which the spec derives. Rests on spec/41_cutout_sequencer.md section 1,
spec/92_eei_decisions.md D10. -/
def Obligations.UnpoweredCutoutTickOnlyCounts : Prop :=
  ∀ s : State, s.tx.txState = .cutout → s.ctl.boosterOn = false → s.tx.cutoutStep.toNat ≤ 18 →
    ¬ (s.tx.cutoutStep = 0 ∧ s.tx.longPulse = true) →
    exec .tick s = .next
      (if s.tx.cutoutStep = 18 then
        { s.ticked with tx.txState := .ready, tx.halfTick := false, tx.cutoutStep := 0 }
      else { s.ticked with tx.cutoutStep := s.tx.cutoutStep + 1 })

/-- From step 0 of a cutout with booster_on = 1, track_en = 1, no cutout asserted, no long half-bit pending and only
ticks coming: after the tick of step k, for k = 0..18, the polarity is POS from step 1 on, the track is undriven
exactly after steps 2 to 17, the receiver is enabled exactly after steps 4 to 16, and after step 18 the state is READY
with half_tick clear and an empty FIFO. R152, which the spec derives. Rests on spec/41_cutout_sequencer.md section 3,
spec/95_test_vectors.md V20. -/
def Obligations.CutoutTimelineOfTheOutputs : Prop :=
  ∀ (s : State) (k : Nat), s.onlyTicks → s.tx.txState = .cutout → s.tx.cutoutStep = 0 → s.tx.longPulse = false →
    s.ctl.boosterOn = true → s.out.trackEn = true → s.out.cutoutAct = false → s.out.rxEn = false → k ≤ 18 →
    ∃ t, s.runSteps (k + 1) = some t ∧ (1 ≤ k → t.out.trackPol = true) ∧ t.driven = decide (k < 2 ∨ k = 18) ∧
      t.out.rxEn = decide (4 ≤ k ∧ k ≤ 16) ∧ t.tx.txState = (if k = 18 then .ready else .cutout) ∧
      (k = 18 → t.tx.halfTick = false ∧ t.tx.cutoutStep = 0 ∧ t.rxFifo = [])

/-- A received byte is appended to rx_fifo exactly when rx_en = 1 and the FIFO holds fewer than RX_DEPTH bytes;
otherwise no state changes. Nothing else changes in either case. The spec's decision D4. Rests on spec/20_memory.md
section 2, spec/92_eei_decisions.md D4. -/
def Obligations.ReceivedByteIsKeptOrLost : Prop :=
  ∀ (b : Byte) (s : State),
    (s.out.rxEn = true → s.rxFifo.length < s.cfg.rxDepth →
      exec (.rxbyte b) s = .next { s with rxFifo := s.rxFifo ++ [b] }) ∧
    (s.out.rxEn = false ∨ s.cfg.rxDepth ≤ s.rxFifo.length → exec (.rxbyte b) s = .next s)

/-- HAMDEC answers the LUT entry of the byte, after replacing 0xF8 by 0xF0, and changes nothing but the answer of the
port (log 6). The LUT's contents are stated by the RC_BYTE rows and by the counts. States R160. -/
def Obligations.HamdecLooksTheByteUp : Prop :=
  ∀ (b : Byte) (s : State),
    exec (.hamdec b) s = .next { s with response := some (.symbol (lut (if b = 0xF8 then 0xF0 else b))) }

/-- For each pair of R161 (general knowledge by the spec's own mark, GK1, log 23): the received byte decodes to the
row of its data value, and that row and HAMDEC of the byte both answer the value, changing nothing but the answer (log
6, log 12). Rests on spec/42_hamming_lut.md, spec/93_implementation_defined.md GK1. -/
def Obligations.DataByteRowsAnswerTheirValue : Prop :=
  ∀ row ∈ ([
    (0xAC, .rcData00, 0x00), (0xAA, .rcData01, 0x01), (0xA9, .rcData02, 0x02), (0xA5, .rcData03, 0x03),
    (0xA3, .rcData04, 0x04), (0xA6, .rcData05, 0x05), (0x9C, .rcData06, 0x06), (0x9A, .rcData07, 0x07),
    (0x99, .rcData08, 0x08), (0x95, .rcData09, 0x09), (0x93, .rcData0A, 0x0A), (0x96, .rcData0B, 0x0B),
    (0x8E, .rcData0C, 0x0C), (0x8D, .rcData0D, 0x0D), (0x8B, .rcData0E, 0x0E), (0xB1, .rcData0F, 0x0F),
    (0xB2, .rcData10, 0x10), (0xB4, .rcData11, 0x11), (0xB8, .rcData12, 0x12), (0x74, .rcData13, 0x13),
    (0x72, .rcData14, 0x14), (0x6C, .rcData15, 0x15), (0x6A, .rcData16, 0x16), (0x69, .rcData17, 0x17),
    (0x65, .rcData18, 0x18), (0x63, .rcData19, 0x19), (0x66, .rcData1A, 0x1A), (0x5C, .rcData1B, 0x1B),
    (0x5A, .rcData1C, 0x1C), (0x59, .rcData1D, 0x1D), (0x55, .rcData1E, 0x1E), (0x53, .rcData1F, 0x1F)] : List (Nat × Instr × BitVec 8)) ++ ([
    (0x56, .rcData20, 0x20), (0x4E, .rcData21, 0x21), (0x4D, .rcData22, 0x22), (0x4B, .rcData23, 0x23),
    (0x47, .rcData24, 0x24), (0x71, .rcData25, 0x25), (0xE8, .rcData26, 0x26), (0xE4, .rcData27, 0x27),
    (0xE2, .rcData28, 0x28), (0xD1, .rcData29, 0x29), (0xC9, .rcData2A, 0x2A), (0xC5, .rcData2B, 0x2B),
    (0xD8, .rcData2C, 0x2C), (0xD4, .rcData2D, 0x2D), (0xD2, .rcData2E, 0x2E), (0xCA, .rcData2F, 0x2F),
    (0xC6, .rcData30, 0x30), (0xCC, .rcData31, 0x31), (0x78, .rcData32, 0x32), (0x17, .rcData33, 0x33),
    (0x1B, .rcData34, 0x34), (0x1D, .rcData35, 0x35), (0x1E, .rcData36, 0x36), (0x2E, .rcData37, 0x37),
    (0x36, .rcData38, 0x38), (0x3A, .rcData39, 0x39), (0x27, .rcData3A, 0x3A), (0x2B, .rcData3B, 0x3B),
    (0x2D, .rcData3C, 0x3C), (0x35, .rcData3D, 0x3D), (0x39, .rcData3E, 0x3E), (0x33, .rcData3F, 0x3F)] : List (Nat × Instr × BitVec 8)),
    decode (.word .rcByte row.1) = .ok row.2.1 ∧
      ∀ s : State, exec row.2.1 s = .next { s with response := some (.symbol row.2.2) } ∧
        exec (.hamdec (BitVec.ofNat 8 row.1)) s = .next { s with response := some (.symbol row.2.2) }

/-- The bytes 0x0F, 0xF0 and (by the remap) 0xF8 give ACK 0x40, 0x3C gives NACK 0x41, 0xE1, 0xC3, 0x87 the reserved
codes 0x42 to 0x44 (bytes: general knowledge GK2; codes: D14; remap: D15). A byte outside the 71 bytes of the code
decodes to RC_INVALID, which answers 0xFF. Nothing but the answer changes (log 6). That an RC_BYTE row is an operation
that answers the symbol is the model's reading (log 12). Rests on spec/42_hamming_lut.md, spec/92_eei_decisions.md
D14, spec/92_eei_decisions.md D15, spec/93_implementation_defined.md GK2. -/
def Obligations.SentinelAndInvalidRowsAnswerTheirSymbol : Prop :=
  (∀ row ∈ ([
    (0x0F, .rcAck0F, 0x40), (0xF0, .rcAckF0, 0x40), (0xF8, .rcAckF8Remap, 0x40), (0x3C, .rcNack, 0x41),
    (0xE1, .rcRsv1, 0x42), (0xC3, .rcRsv2, 0x43), (0x87, .rcRsv3, 0x44)] : List (Nat × Instr × BitVec 8)),
    decode (.word .rcByte row.1) = .ok row.2.1 ∧
      ∀ s : State, exec row.2.1 s = .next { s with response := some (.symbol row.2.2) } ∧
        exec (.hamdec (BitVec.ofNat 8 row.1)) s = .next { s with response := some (.symbol row.2.2) }) ∧
  (∀ (b : Byte) (s : State), (Instr.rcInvalid b).wellFormed = true →
    decode (.word .rcByte b.toNat) = .ok (.rcInvalid b) ∧
      exec (.rcInvalid b) s = .next { s with response := some (.symbol 0xFF) } ∧
      exec (.hamdec b) s = .next { s with response := some (.symbol 0xFF) })

/-- Over the 256 indices the table holds each data value 0x00..0x3F exactly once, ACK twice, NACK and the three
reserved codes once, and INVALID 186 times; an entry is valid exactly when its index has four bits set. R165, which
the spec derives. Rests on spec/42_hamming_lut.md. -/
def Obligations.LutIsTheFourOfEightCode : Prop :=
  (∀ b : Byte, lut b ≠ 0xFF ↔ (byteBits b).count true = 4) ∧
  (∀ v < 64, (List.range 256).countP (fun b => lut (BitVec.ofNat 8 b) == BitVec.ofNat 8 v) = 1) ∧
  (List.range 256).countP (fun b => lut (BitVec.ofNat 8 b) == 0x40) = 2 ∧
  (∀ v ∈ [0x41, 0x42, 0x43, 0x44], (List.range 256).countP (fun b => lut (BitVec.ofNat 8 b) == BitVec.ofNat 8 v) = 1) ∧
  (List.range 256).countP (fun b => lut (BitVec.ofNat 8 b) == 0xFF) = 186

/-- An address half of channel 1 is stored with its flag. When the other half's flag is set, the 14-bit address (low
six bits of the high byte, then the low byte) is formed with the time of its arrival, its flag set, and both half
flags cleared (clearing them is D16). Nothing outside the channel-1 record changes, no statistics in particular. Rests
on spec/43_railcom_decoder.md section 1, spec/30_encoding.md section 4, spec/92_eei_decisions.md D16. -/
def Obligations.Channel1AddressHalvesCombine : Prop :=
  ∀ (val : BitVec 8) (s : State),
    exec (.rc1AdrHigh val) s = .next { s with
      rc1 :=
        if s.rc1.loValid then
          { adrHi := val, adrLo := s.rc1.adrLo, hiValid := false, loValid := false, addrValid := true, stamp := s.time.ms
            addr := BitVec.ofNat 14 (val.toNat % 64 * 256 + s.rc1.adrLo.toNat) }
        else { s.rc1 with adrHi := val, hiValid := true } } ∧
    exec (.rc1AdrLow val) s = .next { s with
      rc1 :=
        if s.rc1.hiValid then
          { adrHi := s.rc1.adrHi, adrLo := val, hiValid := false, loValid := false, addrValid := true, stamp := s.time.ms
            addr := BitVec.ofNat 14 (s.rc1.adrHi.toNat % 64 * 256 + val.toNat) }
        else { s.rc1 with adrLo := val, loValid := true } }

/-- A read of two data symbols runs the channel-1 row that decodes from the 12-bit datagram (first symbol most
significant); with an identifier other than 1 and 2 nothing changes. A read of another length, or with an INVALID
symbol or a sentinel, is discarded: only the ghost log names the fault (log 7; the lengths and the sentinels are D16).
Rests on spec/43_railcom_decoder.md section 1, spec/30_encoding.md section 4, spec/92_eei_decisions.md D16. -/
def Obligations.Channel1DecodeRunsItsDatagram : Prop :=
  ∀ (raw : List Byte) (s : State),
    (raw.length ≠ 2 → exec (.ch1dec raw) s = .next { s with raised := .badLength .ch1 raw.length :: s.raised }) ∧
    (∀ r0 r1, raw = [r0, r1] →
      ((isDataByte r0 && isDataByte r1) = false →
        exec (.ch1dec raw) s = .next { s with raised := .badSymbol .ch1 :: s.raised }) ∧
      ((isDataByte r0 && isDataByte r1) = true →
        (∀ i, decode (.word .dg12Ch1 (datagram12 (hamDec r0) (hamDec r1))) = .ok i →
          ∃ t, exec i s = .next t ∧ exec (.ch1dec raw) s = .next t) ∧
        (datagram12 (hamDec r0) (hamDec r1) / 2 ^ 8 ≠ 1 → datagram12 (hamDec r0) (hamDec r1) / 2 ^ 8 ≠ 2 →
          exec (.ch1dec raw) s = .next s)))

/-- POM stores the CV value and sets its flag. DYN stores value and sub-index and sets both flags; without a third
symbol the sub-index keeps its contents and its flag is cleared (D19). Each counts a response. Nothing else changes.
Invoked on its own a row counts for tx_loco_idx, the model's choice (log 13). Rests on spec/43_railcom_decoder.md
section 2, spec/92_eei_decisions.md D19. -/
def Obligations.ValueDatagramsStoreAndCountAResponse : Prop :=
  ∀ (val : BitVec 8) (sub : BitVec 6) (s : State),
    exec (.rc2Pom val) s = .next (statResponse s.tx.txLocoIdx { s with rc2.cv := val, rc2.cvValid := true }) ∧
    exec (.rc2Dyn val sub) s = .next (statResponse s.tx.txLocoIdx
      { s with rc2.dynVal := val, rc2.dynSub := sub, rc2.dynHasSub := true, rc2.dynValid := true }) ∧
    exec (.rc2DynNosub val) s = .next (statResponse s.tx.txLocoIdx
      { s with rc2.dynVal := val, rc2.dynHasSub := false, rc2.dynValid := true })

/-- As on channel 1, but without a timestamp: the half is stored with its flag, and when the other half's flag is set
the 14-bit address is formed, its flag set and both half flags cleared. Each counts a response. Nothing else changes.
Invoked on its own a row counts for tx_loco_idx, the model's choice (log 13). Rests on spec/43_railcom_decoder.md
section 2, spec/30_encoding.md section 4. -/
def Obligations.Channel2AddressHalvesCombine : Prop :=
  ∀ (val : BitVec 8) (s : State),
    exec (.rc2AdrHigh val) s = .next (statResponse s.tx.txLocoIdx { s with
      rc2 :=
        if s.rc2.loValid then
          { s.rc2 with
            adrHi := val, hiValid := false, loValid := false, addrValid := true
            addr := BitVec.ofNat 14 (val.toNat % 64 * 256 + s.rc2.adrLo.toNat) }
        else { s.rc2 with adrHi := val, hiValid := true } }) ∧
    exec (.rc2AdrLow val) s = .next (statResponse s.tx.txLocoIdx { s with
      rc2 :=
        if s.rc2.hiValid then
          { s.rc2 with
            adrLo := val, hiValid := false, loValid := false, addrValid := true
            addr := BitVec.ofNat 14 (s.rc2.adrHi.toNat % 64 * 256 + val.toNat) }
        else { s.rc2 with adrLo := val, loValid := true } })

/-- An XPOM reply of sequence q is stored, and its flag set, only when the flag of slot q is 0; otherwise the slot is
not written. It counts as a response in both cases (D20). Nothing else changes. Invoked on its own a row counts for
tx_loco_idx, the model's choice (log 13). Rests on spec/43_railcom_decoder.md section 2, spec/92_eei_decisions.md D20.
-/
def Obligations.XpomReplyIsStoredOnlyInAFreeSlot : Prop :=
  ∀ (b0 b1 b2 b3 : Byte) (s : State),
    ∀ row ∈ [((0 : Fin 4), Instr.rc2Xpom0 b0 b1 b2 b3), (1, .rc2Xpom1 b0 b1 b2 b3), (2, .rc2Xpom2 b0 b1 b2 b3),
        (3, .rc2Xpom3 b0 b1 b2 b3)],
      (s.xpom[row.1].valid = true → exec row.2 s = .next (statResponse s.tx.txLocoIdx s)) ∧
      (s.xpom[row.1].valid = false →
        exec row.2 s = .next (statResponse s.tx.txLocoIdx
          { s with xpom := s.xpom.set row.1 { b0 := b0, b1 := b1, b2 := b2, b3 := b3, valid := true } }))

/-- An unrecognised identifier stores no value: the ghost log names it (log 7), the response timestamp moves, nothing
else changes. The payload bits do not matter (log 22). Invoked on its own a row counts for tx_loco_idx, the model's
choice (log 13). Rests on spec/43_railcom_decoder.md section 2. -/
def Obligations.UnknownDatagramsTouchTheTimestampOnly : Prop :=
  ∀ (payload : BitVec 8) (s : State),
    ∀ row ∈ [(3, Instr.rc2Unknown3 payload), (4, .rc2Unknown4 payload), (5, .rc2Unknown5 payload),
        (6, .rc2Unknown6 payload), (12, .rc2Unknown12 payload), (13, .rc2Unknown13 payload),
        (14, .rc2Unknown14 payload), (15, .rc2Unknown15 payload)],
      exec row.2 s = .next (statTouch s.tx.txLocoIdx { s with raised := .unknownId row.1 :: s.raised })

/-- For a read of two to six data symbols: the command is counted, then the row that decodes from the first datagram
runs for the given loco index, then the window rotates (order: D21). The datagram is DG12, or DG18 for DYN with a
third symbol, or DG36 for an XPOM identifier with six symbols; later symbols are ignored (D18). Rests on
spec/43_railcom_decoder.md section 2, spec/30_encoding.md section 4, spec/92_eei_decisions.md D18,
spec/92_eei_decisions.md D21. -/
def Obligations.Channel2DecodeRunsItsDatagram : Prop :=
  ∀ (raw : List Byte) (idx : BitVec 8) (s : State) (i : Instr), raw.length ≤ 6 → raw.all isDataByte = true →
    (∃ d0 d1 rest, raw.map hamDec = d0 :: d1 :: rest ∧ (datagram12 d0 d1 / 2 ^ 8 ≠ 7 ∨ rest = []) ∧
        decode (.word .dg12Ch2 (datagram12 d0 d1)) = .ok i) ∨
      (∃ d0 d1 d2 rest, raw.map hamDec = d0 :: d1 :: d2 :: rest ∧
        decode (.word .dg18 (datagram18 d0 d1 d2)) = .ok i) ∨
      (∃ d0 d1 d2 d3 d4 d5, raw.map hamDec = [d0, d1, d2, d3, d4, d5] ∧
        decode (.word .dg36 (datagram36 d0 d1 d2 d3 d4 d5)) = .ok i) →
    ∃ u, exec i (statCommand idx { s with tx.txLocoIdx := idx }) = .next u ∧
      exec (.ch2dec raw idx) s = .next { statRotate idx u with tx := s.tx }

/-- The command is counted first and the window rotates last (D21). Between them: no byte does nothing; more than six,
a lone data symbol, or an XPOM identifier without six symbols is a malformed length (D18); an INVALID symbol discards
the read; exactly one sentinel counts a response and two or more touch the timestamp (D17). Faults are named in the
ghost log only (log 7). Rests on spec/43_railcom_decoder.md section 2, spec/92_eei_decisions.md D17,
spec/92_eei_decisions.md D18, spec/92_eei_decisions.md D21. -/
def Obligations.Channel2ReadsWithoutADatagram : Prop :=
  ∀ (raw : List Byte) (idx : BitVec 8) (s : State),
    let c := statCommand idx s
    (raw.length = 0 → exec (.ch2dec raw idx) s = .next (statRotate idx c)) ∧
    (6 < raw.length →
      exec (.ch2dec raw idx) s = .next (statRotate idx { c with raised := .badLength .ch2 raw.length :: c.raised })) ∧
    (1 ≤ raw.length → raw.length ≤ 6 → 0xFF ∈ raw.map hamDec →
      exec (.ch2dec raw idx) s = .next (statRotate idx { c with raised := .badSymbol .ch2 :: c.raised })) ∧
    (raw.length ≤ 6 → 0xFF ∉ raw.map hamDec →
      ((raw.map hamDec).countP notData = 1 →
        exec (.ch2dec raw idx) s = .next (statRotate idx (statResponse idx c))) ∧
      (2 ≤ (raw.map hamDec).countP notData →
        exec (.ch2dec raw idx) s = .next (statRotate idx (statTouch idx c))) ∧
      (raw.length = 1 → (raw.map hamDec).countP notData = 0 →
        exec (.ch2dec raw idx) s = .next (statRotate idx { c with raised := .badLength .ch2 1 :: c.raised })) ∧
      (∀ d0 d1 rest, raw.map hamDec = d0 :: d1 :: rest → (raw.map hamDec).countP notData = 0 → raw.length ≠ 6 →
        8 ≤ datagram12 d0 d1 / 2 ^ 8 → datagram12 d0 d1 / 2 ^ 8 ≤ 11 →
        exec (.ch2dec raw idx) s =
          .next (statRotate idx { c with raised := .badLength .ch2 raw.length :: c.raised })))

/-- StatTouch of an index below N_LOCO sets last_rsp_ms to ms and nothing else in the entry; StatReset zeroes every
field. Every other entry reads as before, nothing but the table changes, and an index of N_LOCO or more changes
nothing at all (R64, the spec's decision D3). The table is assumed in canonical form (log 15). R192, R194. Rests on
spec/43_railcom_decoder.md section 3, spec/20_memory.md section 1, spec/92_eei_decisions.md D3. -/
def Obligations.StatTouchAndResetChangeTheirEntryOnly : Prop :=
  ∀ (s : State) (idx k : BitVec 8), Memory.wf StatEntry.zero s.stat →
    statTouch idx s = { s with stat := (statTouch idx s).stat } ∧
    statReset idx s = { s with stat := (statReset idx s).stat } ∧
    (statTouch idx s).statAt k =
      (if k = idx ∧ idx.toNat < s.cfg.nLoco then { s.statAt k with lastRspMs := s.time.ms } else s.statAt k) ∧
    (statReset idx s).statAt k =
      (if k = idx ∧ idx.toNat < s.cfg.nLoco then
        { cmd0 := 0, cmd1 := 0, rsp0 := 0, rsp1 := 0, active := false, lastCmdMs := 0, lastRspMs := 0 }
      else s.statAt k) ∧
    (s.cfg.nLoco ≤ idx.toNat → statTouch idx s = s ∧ statReset idx s = s)

/-- StatCommand adds one command to the active window slot and notes the time; StatResponse adds one response and
notes the time; StatRotate, when the active slot holds 50 or more commands, makes the other slot active and clears its
two counters, and does nothing otherwise. Every other entry reads as before and an index of N_LOCO or more changes
nothing. The table is assumed in canonical form (log 15). Counting at the cutout is D21. Rests on
spec/43_railcom_decoder.md section 3, spec/92_eei_decisions.md D21. -/
def Obligations.StatCommandResponseAndRotateCount : Prop :=
  ∀ (s : State) (idx k : BitVec 8), Memory.wf StatEntry.zero s.stat →
    let e := s.statAt idx
    (idx.toNat < s.cfg.nLoco →
      (e.active = false →
        (statCommand idx s).statAt idx = { e with cmd0 := e.cmd0 + 1, lastCmdMs := s.time.ms } ∧
        (statResponse idx s).statAt idx = { e with rsp0 := e.rsp0 + 1, lastRspMs := s.time.ms } ∧
        (50 ≤ e.cmd0.toNat → (statRotate idx s).statAt idx = { e with active := true, cmd1 := 0, rsp1 := 0 }) ∧
        (e.cmd0.toNat < 50 → (statRotate idx s).statAt idx = e)) ∧
      (e.active = true →
        (statCommand idx s).statAt idx = { e with cmd1 := e.cmd1 + 1, lastCmdMs := s.time.ms } ∧
        (statResponse idx s).statAt idx = { e with rsp1 := e.rsp1 + 1, lastRspMs := s.time.ms } ∧
        (50 ≤ e.cmd1.toNat → (statRotate idx s).statAt idx = { e with active := false, cmd0 := 0, rsp0 := 0 }) ∧
        (e.cmd1.toNat < 50 → (statRotate idx s).statAt idx = e))) ∧
    (s.cfg.nLoco ≤ idx.toNat → statCommand idx s = s ∧ statResponse idx s = s ∧ statRotate idx s = s) ∧
    (k ≠ idx → (statCommand idx s).statAt k = s.statAt k ∧ (statResponse idx s).statAt k = s.statAt k ∧
      (statRotate idx s).statAt k = s.statAt k) ∧
    statCommand idx s = { s with stat := (statCommand idx s).stat } ∧
    statResponse idx s = { s with stat := (statResponse idx s).stat } ∧
    statRotate idx s = { s with stat := (statRotate idx s).stat }

/-- For an index below N_LOCO in a state of the invariant: the rate answered is the response count of the other slot
times 100 / 50, at most 100. Starting from an empty active slot, any fewer than 50 channel-2 reads leave the rate as
it was, 0 for an entry that is all zero; after exactly 50 reads, K of which count as a response, the rate is K * 100 /
50. R195; which reads count is R196, which the spec derives (D17, D18, D20), and that a command is counted per read is
D21. Rests on spec/43_railcom_decoder.md section 3, spec/45_control_and_accessors.md section 2,
spec/92_eei_decisions.md D17, spec/92_eei_decisions.md D18, spec/92_eei_decisions.md D20, spec/92_eei_decisions.md
D21. -/
def Obligations.ResponseRateReportsTheCompletedWindow : Prop :=
  ∀ (s : State) (idx : BitVec 8), Inv s → idx.toNat < s.cfg.nLoco →
    let e := s.statAt idx
    let rate (t : State) (r : Nat) : Prop :=
      exec (.getRc2Rate idx) t = .next { t with response := some (.rate (BitVec.ofNat 8 r)) }
    rate s ((e.rspCnt (!e.active)).toNat * 100 / 50) ∧ (e.rspCnt (!e.active)).toNat * 100 / 50 ≤ 100 ∧
    (e.cmdCnt e.active = 0 → ∀ raws : List (List Byte),
      (raws.length < 50 → rate (decodeAll idx raws s) ((e.rspCnt (!e.active)).toNat * 100 / 50)) ∧
      (raws.length < 50 → e = StatEntry.zero → rate (decodeAll idx raws s) 0) ∧
      (raws.length = 50 → rate (decodeAll idx raws s) (raws.countP isResponse * 100 / 50)))

/-- The frame is: no address byte for 0xFFFF, one byte up to 127, else 192 plus bits 13:8 and the low byte (D27); then
the payload; then the XOR of all of them. Nothing but the answer of the port changes (log 6). Rests on
spec/44_packet_buffer.md section 1, spec/30_encoding.md section 2, spec/92_eei_decisions.md D27. -/
def Obligations.AssembleBuildsAddressPayloadChecksum : Prop :=
  ∀ (a : BitVec 16) (payload : List Byte) (s : State),
    let head : List Byte :=
      if a.toNat = 65535 then []
      else if a.toNat ≤ 127 then [BitVec.ofNat 8 a.toNat]
      else [BitVec.ofNat 8 (192 + a.toNat / 256 % 64), BitVec.ofNat 8 (a.toNat % 256)]
    exec (.assemble a payload) s = .next { s with
      response := some (.frame (head ++ payload ++ [(head ++ payload).foldr (· ^^^ ·) 0])) }

/-- For every address and payload, the frame's last byte equals the XOR of the address bytes and the payload, that is
of all the frame's bytes but the last, and the XOR of all its bytes is 0. READY copies the bytes of the slot as they
are and DATA_SLOT changes no byte: the transmitter never recomputes the checksum. States R211. -/
def Obligations.ChecksumRoundTrips : Prop :=
  (∀ (a : BitVec 16) (payload : List Byte),
    (assemble a payload).getLast? = some ((addrBytes a ++ payload).foldr (· ^^^ ·) 0) ∧
    (assemble a payload).dropLast = addrBytes a ++ payload ∧
    (assemble a payload).foldr (· ^^^ ·) 0 = 0) ∧
  (∀ s t : State, exec .dataSlot s = .next t → t.tx.txBytes = s.tx.txBytes) ∧
  (∀ s t : State, exec .preSlot s = .next t → t.tx.txBytes = s.tx.txBytes) ∧
  (∀ s t : State, s.buf.bufLen ≠ 0 → exec .ready s = .next t → t.tx.txBytes = s.buf.bufBytes)

/-- When the assembled frame has fewer than 2 or more than 9 bytes, whatever the slot holds, no register changes: the
fault BadFrameLength is named in the ghost log (log 7) and reported as a status (log 6). Refusal is the spec's
decision D25. Rests on spec/44_packet_buffer.md section 2, spec/60_exceptions.md section 1, spec/92_eei_decisions.md
D25. -/
def Obligations.SubmitOfAnIllegalLengthIsRefused : Prop :=
  ∀ (s : State) (idx : BitVec 8) (a : BitVec 16) (payload : List Byte),
    (assemble a payload).length < 2 ∨ 9 < (assemble a payload).length →
    exec (.submit idx a payload) s = .next { s with
      raised := .badFrameLength :: s.raised, response := some (.status .badFrameLength) }

/-- With a frame of 2 to 9 bytes and buf_len = 0: the slot holds the frame's bytes, its other bytes keep their
contents, and it gets the index and the length. When idx < N_LOCO, the address is not 0xFFFF and differs from
loco_addr[idx], that entry becomes the address and the statistics of idx are zeroed; otherwise, and for every other
index, both tables read as before (D27). Nothing else changes but the answer (log 6). The tables are assumed in
canonical form (log 15). Rests on spec/44_packet_buffer.md section 2, spec/92_eei_decisions.md D24,
spec/92_eei_decisions.md D27. -/
def Obligations.SubmitFillsTheEmptySlot : Prop :=
  ∀ (s : State) (idx : BitVec 8) (a : BitVec 16) (payload : List Byte),
    Memory.wf StatEntry.zero s.stat → Memory.wf broadcast s.locoAddr →
    2 ≤ (assemble a payload).length → (assemble a payload).length ≤ 9 → s.buf.bufLen = 0 →
    ∃ t, exec (.submit idx a payload) s = .next t ∧
      t = { s with buf := t.buf, stat := t.stat, locoAddr := t.locoAddr, response := some .done } ∧
      t.buf.bufLen.toNat = (assemble a payload).length ∧ t.buf.bufLocoIdx = idx ∧
      (∀ j, j < 9 → t.buf.bufBytes[j]? =
        if j < (assemble a payload).length then (assemble a payload)[j]? else s.buf.bufBytes[j]?) ∧
      (∀ k, t.locoAddrAt k =
        if k = idx ∧ idx.toNat < s.cfg.nLoco ∧ a ≠ 0xFFFF then a else s.locoAddrAt k) ∧
      (∀ k, t.statAt k =
        if k = idx ∧ idx.toNat < s.cfg.nLoco ∧ a ≠ 0xFFFF ∧ s.locoAddrAt idx ≠ a then StatEntry.zero else s.statAt k)

/-- SET_MODE of 0, 1, 2 and the rows of those codes set mode to NO_RAILCOM, RAILCOM, PROGRAMMING (codes: D13), and
SET_CUTOUT_INHIBIT sets its flag to the operand (D11); nothing else changes but the answer (log 6). Mode code 3 and
its row are refused: no register changes, BadMode is named in the ghost log (log 7) and reported as a status (D25, log
11). Rests on spec/45_control_and_accessors.md section 1, spec/30_encoding.md section 5, spec/92_eei_decisions.md D11,
spec/92_eei_decisions.md D13, spec/92_eei_decisions.md D25. -/
def Obligations.ModeAndInhibitAreWritten : Prop :=
  ∀ s : State,
    (∀ row ∈ [(Instr.setMode 0, Mode.noRailcom), (.modeNoRailcom, .noRailcom), (.setMode 1, .railcom),
        (.modeRailcom, .railcom), (.setMode 2, .programming), (.modeProgramming, .programming)],
      exec row.1 s = .next { s with ctl.mode := row.2, response := some .done }) ∧
    (∀ i ∈ [Instr.setMode 3, .modeReserved3],
      exec i s = .next { s with raised := .badMode :: s.raised, response := some (.status .badMode) }) ∧
    exec (.setCutoutInhibit 0) s = .next { s with ctl.cutoutInhibit := false, response := some .done } ∧
    exec (.setCutoutInhibit 1) s = .next { s with ctl.cutoutInhibit := true, response := some .done }

/-- BOOSTER_ON sets booster_on and every xpom_valid; the data of the slots, the outputs and everything else are
unchanged but for the answer (log 6). Rests on spec/45_control_and_accessors.md section 1, spec/92_eei_decisions.md
D23. -/
def Obligations.BoosterOnBlocksTheXpomSlots : Prop :=
  ∀ s : State, ∃ t, exec .boosterOn s = .next t ∧
    t = { s with ctl.boosterOn := true, xpom := t.xpom, response := some .done } ∧
    ∀ q, t.xpomAt q = { s.xpomAt q with valid := true }

/-- BOOSTER_OFF clears booster_on, track_en, cutout_act, rx_en, every xpom_valid and both timestamps of every
statistics entry (the outputs at once: D23). The window counters, the XPOM data and everything else are unchanged but
for the answer (log 6). A second BOOSTER_OFF changes nothing. The table is assumed in canonical form with all entries
below N_LOCO, as in the invariant. Rests on spec/45_control_and_accessors.md section 1, spec/92_eei_decisions.md D23.
-/
def Obligations.BoosterOffClearsOutputsAndTransientState : Prop :=
  ∀ s : State, Memory.wf StatEntry.zero s.stat → (∀ p ∈ s.stat, p.1 < s.cfg.nLoco) →
    ∃ t, exec .boosterOff s = .next t ∧
      t = { s with
        ctl.boosterOn := false, out.trackEn := false, out.cutoutAct := false, out.rxEn := false
        xpom := t.xpom, stat := t.stat, response := some .done } ∧
      (∀ q, t.xpomAt q = { s.xpomAt q with valid := false }) ∧
      (∀ k, t.statAt k = { s.statAt k with lastCmdMs := 0, lastRspMs := 0 }) ∧
      exec .boosterOff t = .next t

/-- Each answers the value or the tuple its rule names and changes nothing but the answer (log 6): the code of mode,
0, 1 or 2; (rc2_cv_valid, rc2_cv); the flag and four bytes of slot q; (valid, value, has_sub, sub); (rc2_addr_valid,
rc2_addr); whether buf_len is not 0; ms. States R231, R238, R240, R242, R244, R246, R247. -/
def Obligations.AccessorsAnswerTheirRegisters : Prop :=
  ∀ s : State,
    (∀ row ∈ [(Mode.noRailcom, (0 : BitVec 2)), (.railcom, 1), (.programming, 2)], s.ctl.mode = row.1 →
      exec .getMode s = .next { s with response := some (.mode row.2) }) ∧
    exec .getCv s = .next { s with response := some (.cv s.rc2.cvValid s.rc2.cv) } ∧
    (∀ q, exec (.getXpom q) s = .next { s with
      response := some (.xpom (s.xpomAt q).valid (s.xpomAt q).b0 (s.xpomAt q).b1 (s.xpomAt q).b2 (s.xpomAt q).b3) }) ∧
    exec .getDyn s = .next { s with
      response := some (.dyn s.rc2.dynValid s.rc2.dynVal s.rc2.dynHasSub s.rc2.dynSub) } ∧
    exec .getRc2Addr s = .next { s with response := some (.rc2Addr s.rc2.addrValid s.rc2.addr) } ∧
    exec .getBufBusy s = .next { s with response := some (.busy (decide (s.buf.bufLen ≠ 0))) } ∧
    exec .getMs s = .next { s with response := some (.ms s.time.ms) }

/-- The answer is (valid, rc1_addr) with valid exactly when rc1_addr_valid = 1 and the age, ms minus rc1_ms modulo
2^32, is below 1000; nothing but the answer changes. When valid is 0 the address field carries rc1_addr too: the spec
leaves it without meaning there, and this is the model's choice (log 25). R235; the flag and the pair are D16. Rests
on spec/45_control_and_accessors.md section 2, spec/92_eei_decisions.md D16. -/
def Obligations.Rc1AddressIsReportedWhileFresh : Prop :=
  ∀ s : State, exec .getRc1Addr s = .next { s with
    response := some (.rc1Addr
      (s.rc1.addrValid && decide ((s.time.ms.toNat + 2 ^ 32 - s.rc1.stamp.toNat) % 2 ^ 32 < 1000)) s.rc1.addr) }

/-- For an index below N_LOCO the rate is twice the response count of the other window slot, and the age is ms minus
last_rsp_ms modulo 2^32 (D35). For another index they answer 0 and 0xFFFFFFFF (D25). Nothing but the answer changes.
Rests on spec/45_control_and_accessors.md section 2, spec/92_eei_decisions.md D25, spec/92_eei_decisions.md D35. -/
def Obligations.RateAndAgeOfALoco : Prop :=
  ∀ (s : State) (idx : BitVec 8),
    (idx.toNat < s.cfg.nLoco →
      exec (.getRc2Rate idx) s = .next { s with response := some (.rate (BitVec.ofNat 8
        (2 * if (s.statAt idx).active then (s.statAt idx).rsp0.toNat else (s.statAt idx).rsp1.toNat))) } ∧
      exec (.getRc2Age idx) s = .next { s with response := some (.age (BitVec.ofNat 32
        (s.time.ms.toNat + 2 ^ 32 - (s.statAt idx).lastRspMs.toNat))) }) ∧
    (s.cfg.nLoco ≤ idx.toNat →
      exec (.getRc2Rate idx) s = .next { s with response := some (.rate 0) } ∧
      exec (.getRc2Age idx) s = .next { s with response := some (.age 0xFFFFFFFF) })

/-- Each clears the flag its rule names; the value registers, the half flags and everything else keep their values but
for the answer (log 6). A cleared XPOM slot takes the next reply of its sequence: after CLR_XPOM of q the row of
sequence q stores its four bytes and sets the flag, whatever the flag was before (R241 re-opens the slot). For which
index the row counts its response is not said here (log 13). States R239, R241, R243, R245. -/
def Obligations.ClearsClearTheirFlagOnly : Prop :=
  ∀ s : State,
    exec .clrCv s = .next { s with rc2.cvValid := false, response := some .done } ∧
    (∀ q, exec (.clrXpom q) s = .next { s with
      xpom := s.xpom.set q.toNat { s.xpomAt q with valid := false }, response := some .done }) ∧
    (∀ b0 b1 b2 b3 : Byte, ∀ row ∈ [((0 : BitVec 2), Instr.rc2Xpom0 b0 b1 b2 b3), (1, .rc2Xpom1 b0 b1 b2 b3),
        (2, .rc2Xpom2 b0 b1 b2 b3), (3, .rc2Xpom3 b0 b1 b2 b3)],
      ∃ t u, exec (.clrXpom row.1) s = .next t ∧ exec row.2 t = .next u ∧
        u.xpomAt row.1 = { b0 := b0, b1 := b1, b2 := b2, b3 := b3, valid := true }) ∧
    exec .clrDyn s = .next { s with rc2.dynValid := false, response := some .done } ∧
    exec .clrRc2Addr s = .next { s with rc2.addrValid := false, response := some .done }

/-- Every accessor changes nothing but the answer of the port (log 6) and answers the same when repeated. A table
lookup is pure. RxReadAll leaves an empty FIFO, so a second one returns no byte. READY on a full slot leaves it empty,
with its bytes and index as they were. States R79. -/
def Obligations.ReadsArePureExceptReadAll : Prop :=
  (∀ (i : Instr) (s t : State),
    (i ∈ [Instr.getMode, .getRc1Addr, .getCv, .getDyn, .getRc2Addr, .getBufBusy, .getMs] ∨
      (∃ idx, i = .getRc2Rate idx ∨ i = .getRc2Age idx) ∨ (∃ q, i = .getXpom q) ∨ (∃ b, i = .hamdec b)) →
    exec i s = .next t → t = { s with response := t.response } ∧ exec i t = .next t) ∧
  (∀ s : State, rxReadAll s = s.rxFifo ∧ rxDrain s = { s with rxFifo := [] } ∧ rxReadAll (rxDrain s) = []) ∧
  (∀ s t : State, s.buf.bufLen ≠ 0 → exec .ready s = .next t → t.buf = { s.buf with bufLen := 0 })

/-- Every operation of the foreground port (log 31) leaves the transmitter, track_pol, flow_continue, the time, the
channel-1 record, the channel-2 values and half flags, the XPOM data, the receive FIFO and the parameters as they are.
It only clears track_en, cutout_act, rx_en and the channel-2 flags, changes buf_len only from 0 to another value, and
leaves the counters of every statistics entry alone or zeroes the entry. R43 and R294 read together. Rests on
spec/10_state.md section 13, spec/60_exceptions.md section 3. -/
def Obligations.ForegroundWritesOnlyWhatItOwns : Prop :=
  ∀ (i : Instr) (s t : State), isForeground i = true → Memory.wf StatEntry.zero s.stat → exec i s = .next t →
    t.tx = s.tx ∧ t.out.trackPol = s.out.trackPol ∧ t.out.flowContinue = s.out.flowContinue ∧ t.time = s.time ∧
    t.rc1 = s.rc1 ∧ t.rxFifo = s.rxFifo ∧ t.cfg = s.cfg ∧
    (t.out.trackEn = true → s.out.trackEn = true) ∧ (t.out.cutoutAct = true → s.out.cutoutAct = true) ∧
    (t.out.rxEn = true → s.out.rxEn = true) ∧
    t.rc2 = { s.rc2 with
      addrValid := t.rc2.addrValid, cvValid := t.rc2.cvValid, dynValid := t.rc2.dynValid } ∧
    (t.rc2.addrValid = true → s.rc2.addrValid = true) ∧ (t.rc2.cvValid = true → s.rc2.cvValid = true) ∧
    (t.rc2.dynValid = true → s.rc2.dynValid = true) ∧
    (∀ q, t.xpomAt q = { s.xpomAt q with valid := (t.xpomAt q).valid }) ∧
    (t.buf = s.buf ∨ (s.buf.bufLen = 0 ∧ t.buf.bufLen ≠ 0)) ∧
    (∀ k, t.statAt k = StatEntry.zero ∨
      t.statAt k = { s.statAt k with
        lastCmdMs := (t.statAt k).lastCmdMs, lastRspMs := (t.statAt k).lastRspMs })

/-- A tick leaves mode, booster_on, cutout_inhibit, buf_bytes, buf_loco_idx, loco_addr, the parameters and the
foreground's answer as they are; it leaves buf_len or clears it, never clears the flags of a decoded value, and never
writes an XPOM slot whose flag is set; statistics of any index but tx_loco_idx are untouched. With booster_on = 0 it
changes no RailCom record, no statistics and no FIFO. R43. Rests on spec/10_state.md section 13, spec/20_memory.md
section 6. -/
def Obligations.TickWritesOnlyWhatItOwns : Prop :=
  ∀ s t : State, exec .tick s = .next t →
    t.ctl = s.ctl ∧ t.buf = { s.buf with bufLen := t.buf.bufLen } ∧
    (t.buf.bufLen = s.buf.bufLen ∨ t.buf.bufLen = 0) ∧ t.locoAddr = s.locoAddr ∧ t.cfg = s.cfg ∧
    t.response = s.response ∧
    (s.rc2.addrValid = true → t.rc2.addrValid = true) ∧ (s.rc2.cvValid = true → t.rc2.cvValid = true) ∧
    (s.rc2.dynValid = true → t.rc2.dynValid = true) ∧
    (∀ q, (s.xpomAt q).valid = true → t.xpomAt q = s.xpomAt q) ∧
    (∀ k, k ≠ s.tx.txLocoIdx → t.statAt k = s.statAt k) ∧
    (s.ctl.boosterOn = false → t.rc1 = s.rc1 ∧ t.rc2 = s.rc2 ∧ t.xpom = s.xpom ∧ t.stat = s.stat ∧
      t.rxFifo = s.rxFifo ∧ t.out.trackEn = s.out.trackEn ∧ t.out.cutoutAct = s.out.cutoutAct ∧
      t.out.rxEn = s.out.rxEn)

/-- The 28-step speed packet is a SUBMIT of the one byte 64 + 32 * dir + 16 * (speed mod 2) + speed / 2 with the
loco's address (R262). For accessory address 1 the switch packet is a SUBMIT without address of 0x81 and 0xF8 plus the
state (R264), and with bit 3 clear for the reset (GK8), with whatever loco index; state stands where the API names a
switch number. The reset broadcast is a SUBMIT of 00 00 without address and with LOCO_NONE (R261). The builders belong
to excluded software; writing them down, the index as an argument and state in place of the switch number are the
model's choice (log 26). Rests on spec/46_boundary_api.md section 2, spec/93_implementation_defined.md GK8. -/
def Obligations.BoundaryPacketsHaveTheBytesOfTheSpec : Prop :=
  (∀ (idx : BitVec 8) (a : BitVec 16) (dir : Bool) (speed : BitVec 5),
    decode (sendSpeed28 idx a dir speed) = .ok (.submit idx a
      [BitVec.ofNat 8 (64 + (if dir then 32 else 0) + 16 * (speed.toNat % 2) + speed.toNat / 2)])) ∧
  (∀ idx : BitVec 8,
    decode (baseSwitchSet idx 1 false) = .ok (.submit idx 0xFFFF [0x81, 0xF8]) ∧
    decode (baseSwitchSet idx 1 true) = .ok (.submit idx 0xFFFF [0x81, 0xF9]) ∧
    decode (baseSwitchReset idx 1 false) = .ok (.submit idx 0xFFFF [0x81, 0xF0]) ∧
    decode (baseSwitchReset idx 1 true) = .ok (.submit idx 0xFFFF [0x81, 0xF1])) ∧
  decode resetBroadcast = .ok (.submit 0xFF 0xFFFF [0x00, 0x00])
end

