-- ==== Sys2Proof/Laws/Memory.lean ====
section
/-! SUPPORT. The sparse tables: every operation keeps the canonical form, a read after a write, and what a write can
leave in the table. -/

namespace Sys2Proof.Machine

variable {α : Type} [DecidableEq α] {dflt : α}

theorem Memory.wf_nil : Memory.wf dflt ([] : Memory α) :=
  ⟨List.Pairwise.nil, by simp⟩

theorem Memory.wf_tail {p : Nat × α} {m : Memory α} (h : Memory.wf dflt (p :: m)) : Memory.wf dflt m :=
  ⟨(List.pairwise_cons.mp h.1).2, fun q hq => h.2 q (List.mem_cons_of_mem _ hq)⟩

theorem Memory.wf_cons {p : Nat × α} {m : Memory α} (hlt : ∀ q ∈ m, p.1 < q.1) (hp : p.2 ≠ dflt)
    (h : Memory.wf dflt m) : Memory.wf dflt (p :: m) :=
  ⟨List.pairwise_cons.mpr ⟨hlt, h.1⟩, fun q hq => by
    rcases List.mem_cons.mp hq with rfl | hq
    · exact hp
    · exact h.2 q hq⟩

omit [DecidableEq α] in
/-- Below the first listed index every index reads as the default. -/
theorem Memory.read_of_lt {m : Memory α} {i : Nat} (h : ∀ q ∈ m, i < q.1) : Memory.read dflt m i = dflt := by
  induction m with
  | nil => rfl
  | cons p m ih =>
    obtain ⟨j, v⟩ := p
    have hj : i < j := h (j, v) (by simp)
    have : ¬ j = i := by omega
    simp only [Memory.read, this, if_false]
    exact ih fun q hq => h q (List.mem_cons_of_mem _ hq)

/-- An entry after a write is the one written, or was there before. -/
theorem Memory.mem_write {m : Memory α} {i : Nat} {v : α} {p : Nat × α}
    (h : p ∈ Memory.write dflt m i v) : (p = (i, v) ∧ v ≠ dflt) ∨ p ∈ m := by
  induction m with
  | nil =>
    simp only [Memory.write] at h
    split at h
    · simp at h
    · exact Or.inl ⟨by simpa using h, ‹_›⟩
  | cons q m ih =>
    obtain ⟨j, w⟩ := q
    simp only [Memory.write] at h
    split at h
    · split at h
      · exact Or.inr h
      · rcases List.mem_cons.mp h with h | h
        · exact Or.inl ⟨h, ‹_›⟩
        · exact Or.inr h
    · split at h
      · split at h
        · exact Or.inr (List.mem_cons_of_mem _ h)
        · rcases List.mem_cons.mp h with h | h
          · exact Or.inl ⟨h, ‹_›⟩
          · exact Or.inr (List.mem_cons_of_mem _ h)
      · rcases List.mem_cons.mp h with h | h
        · exact Or.inr (by simp [h])
        · rcases ih h with h | h
          · exact Or.inl h
          · exact Or.inr (List.mem_cons_of_mem _ h)

/-- A write keeps the canonical form. -/
theorem Memory.write_wf {m : Memory α} (i : Nat) (v : α) (h : Memory.wf dflt m) :
    Memory.wf dflt (Memory.write dflt m i v) := by
  induction m with
  | nil =>
    simp only [Memory.write]
    split
    · exact Memory.wf_nil
    · exact Memory.wf_cons (by simp) ‹_› Memory.wf_nil
  | cons q m ih =>
    obtain ⟨j, w⟩ := q
    have hlt := (List.pairwise_cons.mp h.1).1
    have hw : w ≠ dflt := h.2 (j, w) (by simp)
    have hm := Memory.wf_tail h
    simp only [Memory.write]
    split
    · split
      · exact h
      · refine Memory.wf_cons (fun q hq => ?_) ‹_› h
        rcases List.mem_cons.mp hq with rfl | hq
        · assumption
        · have := hlt q hq
          simp only at this ⊢
          omega
    · split
      · subst_vars
        split
        · exact hm
        · exact Memory.wf_cons hlt ‹_› hm
      · refine Memory.wf_cons (fun q hq => ?_) hw (ih hm)
        rcases Memory.mem_write hq with ⟨rfl, _⟩ | hq
        · simp only
          omega
        · exact hlt q hq

/-- A read of the entry just written gives what was written. -/
theorem Memory.read_write_same {m : Memory α} (i : Nat) (v : α) (h : Memory.wf dflt m) :
    Memory.read dflt (Memory.write dflt m i v) i = v := by
  induction m with
  | nil =>
    simp only [Memory.write]
    split
    · simp_all [Memory.read]
    · simp [Memory.read]
  | cons q m ih =>
    obtain ⟨j, w⟩ := q
    have hlt := (List.pairwise_cons.mp h.1).1
    simp only [Memory.write]
    split
    · rename_i hij
      split
      · rename_i hv
        rw [hv]
        refine Memory.read_of_lt fun q hq => ?_
        rcases List.mem_cons.mp hq with rfl | hq
        · assumption
        · have := hlt q hq
          simp only at this
          omega
      · simp [Memory.read]
    · split
      · subst_vars
        split
        · rename_i hv
          rw [hv]
          exact Memory.read_of_lt hlt
        · simp [Memory.read]
      · have hne : ¬ j = i := by omega
        simp only [Memory.read, hne, if_false]
        exact ih (Memory.wf_tail h)

/-- A write leaves every other entry alone. -/
theorem Memory.read_write_other {m : Memory α} {i k : Nat} (v : α) (hne : k ≠ i) :
    Memory.read dflt (Memory.write dflt m i v) k = Memory.read dflt m k := by
  have hik : ¬ i = k := fun e => hne e.symm
  induction m with
  | nil =>
    simp only [Memory.write]
    split
    · rfl
    · simp [Memory.read, hik]
  | cons q m ih =>
    obtain ⟨j, w⟩ := q
    simp only [Memory.write]
    split
    · split
      · rfl
      · simp [Memory.read, hik]
    · split
      · subst_vars
        split <;> simp [Memory.read, hik]
      · simp only [Memory.read]
        split
        · rfl
        · exact ih

/-- An entry after a map comes from an entry with the same index. -/
theorem Memory.mem_mapBelow {m : Memory α} {n : Nat} {f : α → α} {p : Nat × α}
    (h : p ∈ Memory.mapBelow dflt n f m) : 
    ∃ q ∈ m, q.1 = p.1 ∧ p.2 = Memory.below n f q.1 q.2 ∧ p.2 ≠ dflt := by
  induction m with
  | nil => simp [Memory.mapBelow] at h
  | cons q m ih =>
    obtain ⟨i, v⟩ := q
    simp only [Memory.mapBelow] at h
    split at h
    · obtain ⟨q, hq, hp⟩ := ih h
      exact ⟨q, List.mem_cons_of_mem _ hq, hp⟩
    · rcases List.mem_cons.mp h with rfl | h
      · exact ⟨(i, v), by simp, rfl, rfl, ‹_›⟩
      · obtain ⟨q, hq, hp⟩ := ih h
        exact ⟨q, List.mem_cons_of_mem _ hq, hp⟩

/-- A map keeps the canonical form. -/
theorem Memory.mapBelow_wf {m : Memory α} (n : Nat) (f : α → α) (h : Memory.wf dflt m) :
    Memory.wf dflt (Memory.mapBelow dflt n f m) := by
  induction m with
  | nil => exact Memory.wf_nil
  | cons q m ih =>
    obtain ⟨i, v⟩ := q
    have hlt := (List.pairwise_cons.mp h.1).1
    simp only [Memory.mapBelow]
    split
    · exact ih (Memory.wf_tail h)
    · refine Memory.wf_cons (fun p hp => ?_) ‹_› (ih (Memory.wf_tail h))
      obtain ⟨q, hq, he, _⟩ := Memory.mem_mapBelow hp
      have := hlt q hq
      simp only at this ⊢
      omega

/-- What an entry reads as after a map that leaves the default alone. -/
theorem Memory.read_mapBelow {m : Memory α} (n : Nat) {f : α → α} (hf : f dflt = dflt) (h : Memory.wf dflt m) (k : Nat) :
    Memory.read dflt (Memory.mapBelow dflt n f m) k = Memory.below n f k (Memory.read dflt m k) := by
  have hd : Memory.below n f k dflt = dflt := by
    unfold Memory.below
    split
    · exact hf
    · rfl
  induction m with
  | nil => simp only [Memory.mapBelow, Memory.read, hd]
  | cons q m ih =>
    obtain ⟨i, v⟩ := q
    have hlt := (List.pairwise_cons.mp h.1).1
    have ih' := ih (Memory.wf_tail h)
    by_cases hik : i = k
    · subst hik
      have hnone : Memory.read dflt m i = dflt := Memory.read_of_lt hlt
      simp only [Memory.mapBelow]
      split
      · rename_i hv
        rw [ih', hnone, hd]
        simp only [Memory.read, if_true]
        exact hv.symm
      · simp [Memory.read]
    · simp only [Memory.mapBelow]
      split
      · simp only [Memory.read, hik, if_false]
        exact ih'
      · simp only [Memory.read, hik, if_false]
        exact ih'

end Sys2Proof.Machine
end

