-- ==== Sys2Proof/Laws/State.lean ====
section
/-! SUPPORT. One lemma per field per update of State, so that no later proof unfolds an update. -/

namespace Sys2Proof.Machine

variable (s : State)

@[simp] theorem State.setTx_tx (v) : (s.setTx v).tx = v := rfl
@[simp] theorem State.setTx_out (v) : (s.setTx v).out = s.out := rfl
@[simp] theorem State.setTx_ctl (v) : (s.setTx v).ctl = s.ctl := rfl
@[simp] theorem State.setTx_buf (v) : (s.setTx v).buf = s.buf := rfl
@[simp] theorem State.setTx_time (v) : (s.setTx v).time = s.time := rfl
@[simp] theorem State.setTx_rc1 (v) : (s.setTx v).rc1 = s.rc1 := rfl
@[simp] theorem State.setTx_rc2 (v) : (s.setTx v).rc2 = s.rc2 := rfl
@[simp] theorem State.setTx_xpom (v) : (s.setTx v).xpom = s.xpom := rfl
@[simp] theorem State.setTx_stat (v) : (s.setTx v).stat = s.stat := rfl
@[simp] theorem State.setTx_locoAddr (v) : (s.setTx v).locoAddr = s.locoAddr := rfl
@[simp] theorem State.setTx_rxFifo (v) : (s.setTx v).rxFifo = s.rxFifo := rfl
@[simp] theorem State.setTx_raised (v) : (s.setTx v).raised = s.raised := rfl
@[simp] theorem State.setTx_cfg (v) : (s.setTx v).cfg = s.cfg := rfl
@[simp] theorem State.setTx_response (v) : (s.setTx v).response = s.response := rfl
@[simp] theorem State.setTx_opPort (v) : (s.setTx v).opPort = s.opPort := rfl
@[simp] theorem State.setTx_turns (v) : (s.setTx v).turns = s.turns := rfl
@[simp] theorem State.setTx_fgQueue (v) : (s.setTx v).fgQueue = s.fgQueue := rfl
@[simp] theorem State.setTx_twice (v w) : (s.setTx v).setTx w = s.setTx w := rfl
@[simp] theorem State.setTx_same : s.setTx s.tx = s := rfl

@[simp] theorem State.setOut_tx (v) : (s.setOut v).tx = s.tx := rfl
@[simp] theorem State.setOut_out (v) : (s.setOut v).out = v := rfl
@[simp] theorem State.setOut_ctl (v) : (s.setOut v).ctl = s.ctl := rfl
@[simp] theorem State.setOut_buf (v) : (s.setOut v).buf = s.buf := rfl
@[simp] theorem State.setOut_time (v) : (s.setOut v).time = s.time := rfl
@[simp] theorem State.setOut_rc1 (v) : (s.setOut v).rc1 = s.rc1 := rfl
@[simp] theorem State.setOut_rc2 (v) : (s.setOut v).rc2 = s.rc2 := rfl
@[simp] theorem State.setOut_xpom (v) : (s.setOut v).xpom = s.xpom := rfl
@[simp] theorem State.setOut_stat (v) : (s.setOut v).stat = s.stat := rfl
@[simp] theorem State.setOut_locoAddr (v) : (s.setOut v).locoAddr = s.locoAddr := rfl
@[simp] theorem State.setOut_rxFifo (v) : (s.setOut v).rxFifo = s.rxFifo := rfl
@[simp] theorem State.setOut_raised (v) : (s.setOut v).raised = s.raised := rfl
@[simp] theorem State.setOut_cfg (v) : (s.setOut v).cfg = s.cfg := rfl
@[simp] theorem State.setOut_response (v) : (s.setOut v).response = s.response := rfl
@[simp] theorem State.setOut_opPort (v) : (s.setOut v).opPort = s.opPort := rfl
@[simp] theorem State.setOut_turns (v) : (s.setOut v).turns = s.turns := rfl
@[simp] theorem State.setOut_fgQueue (v) : (s.setOut v).fgQueue = s.fgQueue := rfl
@[simp] theorem State.setOut_twice (v w) : (s.setOut v).setOut w = s.setOut w := rfl
@[simp] theorem State.setOut_same : s.setOut s.out = s := rfl

@[simp] theorem State.setCtl_tx (v) : (s.setCtl v).tx = s.tx := rfl
@[simp] theorem State.setCtl_out (v) : (s.setCtl v).out = s.out := rfl
@[simp] theorem State.setCtl_ctl (v) : (s.setCtl v).ctl = v := rfl
@[simp] theorem State.setCtl_buf (v) : (s.setCtl v).buf = s.buf := rfl
@[simp] theorem State.setCtl_time (v) : (s.setCtl v).time = s.time := rfl
@[simp] theorem State.setCtl_rc1 (v) : (s.setCtl v).rc1 = s.rc1 := rfl
@[simp] theorem State.setCtl_rc2 (v) : (s.setCtl v).rc2 = s.rc2 := rfl
@[simp] theorem State.setCtl_xpom (v) : (s.setCtl v).xpom = s.xpom := rfl
@[simp] theorem State.setCtl_stat (v) : (s.setCtl v).stat = s.stat := rfl
@[simp] theorem State.setCtl_locoAddr (v) : (s.setCtl v).locoAddr = s.locoAddr := rfl
@[simp] theorem State.setCtl_rxFifo (v) : (s.setCtl v).rxFifo = s.rxFifo := rfl
@[simp] theorem State.setCtl_raised (v) : (s.setCtl v).raised = s.raised := rfl
@[simp] theorem State.setCtl_cfg (v) : (s.setCtl v).cfg = s.cfg := rfl
@[simp] theorem State.setCtl_response (v) : (s.setCtl v).response = s.response := rfl
@[simp] theorem State.setCtl_opPort (v) : (s.setCtl v).opPort = s.opPort := rfl
@[simp] theorem State.setCtl_turns (v) : (s.setCtl v).turns = s.turns := rfl
@[simp] theorem State.setCtl_fgQueue (v) : (s.setCtl v).fgQueue = s.fgQueue := rfl
@[simp] theorem State.setCtl_twice (v w) : (s.setCtl v).setCtl w = s.setCtl w := rfl
@[simp] theorem State.setCtl_same : s.setCtl s.ctl = s := rfl

@[simp] theorem State.setBuf_tx (v) : (s.setBuf v).tx = s.tx := rfl
@[simp] theorem State.setBuf_out (v) : (s.setBuf v).out = s.out := rfl
@[simp] theorem State.setBuf_ctl (v) : (s.setBuf v).ctl = s.ctl := rfl
@[simp] theorem State.setBuf_buf (v) : (s.setBuf v).buf = v := rfl
@[simp] theorem State.setBuf_time (v) : (s.setBuf v).time = s.time := rfl
@[simp] theorem State.setBuf_rc1 (v) : (s.setBuf v).rc1 = s.rc1 := rfl
@[simp] theorem State.setBuf_rc2 (v) : (s.setBuf v).rc2 = s.rc2 := rfl
@[simp] theorem State.setBuf_xpom (v) : (s.setBuf v).xpom = s.xpom := rfl
@[simp] theorem State.setBuf_stat (v) : (s.setBuf v).stat = s.stat := rfl
@[simp] theorem State.setBuf_locoAddr (v) : (s.setBuf v).locoAddr = s.locoAddr := rfl
@[simp] theorem State.setBuf_rxFifo (v) : (s.setBuf v).rxFifo = s.rxFifo := rfl
@[simp] theorem State.setBuf_raised (v) : (s.setBuf v).raised = s.raised := rfl
@[simp] theorem State.setBuf_cfg (v) : (s.setBuf v).cfg = s.cfg := rfl
@[simp] theorem State.setBuf_response (v) : (s.setBuf v).response = s.response := rfl
@[simp] theorem State.setBuf_opPort (v) : (s.setBuf v).opPort = s.opPort := rfl
@[simp] theorem State.setBuf_turns (v) : (s.setBuf v).turns = s.turns := rfl
@[simp] theorem State.setBuf_fgQueue (v) : (s.setBuf v).fgQueue = s.fgQueue := rfl
@[simp] theorem State.setBuf_twice (v w) : (s.setBuf v).setBuf w = s.setBuf w := rfl
@[simp] theorem State.setBuf_same : s.setBuf s.buf = s := rfl

@[simp] theorem State.setTime_tx (v) : (s.setTime v).tx = s.tx := rfl
@[simp] theorem State.setTime_out (v) : (s.setTime v).out = s.out := rfl
@[simp] theorem State.setTime_ctl (v) : (s.setTime v).ctl = s.ctl := rfl
@[simp] theorem State.setTime_buf (v) : (s.setTime v).buf = s.buf := rfl
@[simp] theorem State.setTime_time (v) : (s.setTime v).time = v := rfl
@[simp] theorem State.setTime_rc1 (v) : (s.setTime v).rc1 = s.rc1 := rfl
@[simp] theorem State.setTime_rc2 (v) : (s.setTime v).rc2 = s.rc2 := rfl
@[simp] theorem State.setTime_xpom (v) : (s.setTime v).xpom = s.xpom := rfl
@[simp] theorem State.setTime_stat (v) : (s.setTime v).stat = s.stat := rfl
@[simp] theorem State.setTime_locoAddr (v) : (s.setTime v).locoAddr = s.locoAddr := rfl
@[simp] theorem State.setTime_rxFifo (v) : (s.setTime v).rxFifo = s.rxFifo := rfl
@[simp] theorem State.setTime_raised (v) : (s.setTime v).raised = s.raised := rfl
@[simp] theorem State.setTime_cfg (v) : (s.setTime v).cfg = s.cfg := rfl
@[simp] theorem State.setTime_response (v) : (s.setTime v).response = s.response := rfl
@[simp] theorem State.setTime_opPort (v) : (s.setTime v).opPort = s.opPort := rfl
@[simp] theorem State.setTime_turns (v) : (s.setTime v).turns = s.turns := rfl
@[simp] theorem State.setTime_fgQueue (v) : (s.setTime v).fgQueue = s.fgQueue := rfl
@[simp] theorem State.setTime_twice (v w) : (s.setTime v).setTime w = s.setTime w := rfl
@[simp] theorem State.setTime_same : s.setTime s.time = s := rfl

@[simp] theorem State.setRc1_tx (v) : (s.setRc1 v).tx = s.tx := rfl
@[simp] theorem State.setRc1_out (v) : (s.setRc1 v).out = s.out := rfl
@[simp] theorem State.setRc1_ctl (v) : (s.setRc1 v).ctl = s.ctl := rfl
@[simp] theorem State.setRc1_buf (v) : (s.setRc1 v).buf = s.buf := rfl
@[simp] theorem State.setRc1_time (v) : (s.setRc1 v).time = s.time := rfl
@[simp] theorem State.setRc1_rc1 (v) : (s.setRc1 v).rc1 = v := rfl
@[simp] theorem State.setRc1_rc2 (v) : (s.setRc1 v).rc2 = s.rc2 := rfl
@[simp] theorem State.setRc1_xpom (v) : (s.setRc1 v).xpom = s.xpom := rfl
@[simp] theorem State.setRc1_stat (v) : (s.setRc1 v).stat = s.stat := rfl
@[simp] theorem State.setRc1_locoAddr (v) : (s.setRc1 v).locoAddr = s.locoAddr := rfl
@[simp] theorem State.setRc1_rxFifo (v) : (s.setRc1 v).rxFifo = s.rxFifo := rfl
@[simp] theorem State.setRc1_raised (v) : (s.setRc1 v).raised = s.raised := rfl
@[simp] theorem State.setRc1_cfg (v) : (s.setRc1 v).cfg = s.cfg := rfl
@[simp] theorem State.setRc1_response (v) : (s.setRc1 v).response = s.response := rfl
@[simp] theorem State.setRc1_opPort (v) : (s.setRc1 v).opPort = s.opPort := rfl
@[simp] theorem State.setRc1_turns (v) : (s.setRc1 v).turns = s.turns := rfl
@[simp] theorem State.setRc1_fgQueue (v) : (s.setRc1 v).fgQueue = s.fgQueue := rfl
@[simp] theorem State.setRc1_twice (v w) : (s.setRc1 v).setRc1 w = s.setRc1 w := rfl
@[simp] theorem State.setRc1_same : s.setRc1 s.rc1 = s := rfl

@[simp] theorem State.setRc2_tx (v) : (s.setRc2 v).tx = s.tx := rfl
@[simp] theorem State.setRc2_out (v) : (s.setRc2 v).out = s.out := rfl
@[simp] theorem State.setRc2_ctl (v) : (s.setRc2 v).ctl = s.ctl := rfl
@[simp] theorem State.setRc2_buf (v) : (s.setRc2 v).buf = s.buf := rfl
@[simp] theorem State.setRc2_time (v) : (s.setRc2 v).time = s.time := rfl
@[simp] theorem State.setRc2_rc1 (v) : (s.setRc2 v).rc1 = s.rc1 := rfl
@[simp] theorem State.setRc2_rc2 (v) : (s.setRc2 v).rc2 = v := rfl
@[simp] theorem State.setRc2_xpom (v) : (s.setRc2 v).xpom = s.xpom := rfl
@[simp] theorem State.setRc2_stat (v) : (s.setRc2 v).stat = s.stat := rfl
@[simp] theorem State.setRc2_locoAddr (v) : (s.setRc2 v).locoAddr = s.locoAddr := rfl
@[simp] theorem State.setRc2_rxFifo (v) : (s.setRc2 v).rxFifo = s.rxFifo := rfl
@[simp] theorem State.setRc2_raised (v) : (s.setRc2 v).raised = s.raised := rfl
@[simp] theorem State.setRc2_cfg (v) : (s.setRc2 v).cfg = s.cfg := rfl
@[simp] theorem State.setRc2_response (v) : (s.setRc2 v).response = s.response := rfl
@[simp] theorem State.setRc2_opPort (v) : (s.setRc2 v).opPort = s.opPort := rfl
@[simp] theorem State.setRc2_turns (v) : (s.setRc2 v).turns = s.turns := rfl
@[simp] theorem State.setRc2_fgQueue (v) : (s.setRc2 v).fgQueue = s.fgQueue := rfl
@[simp] theorem State.setRc2_twice (v w) : (s.setRc2 v).setRc2 w = s.setRc2 w := rfl
@[simp] theorem State.setRc2_same : s.setRc2 s.rc2 = s := rfl

@[simp] theorem State.setXpom_tx (v) : (s.setXpom v).tx = s.tx := rfl
@[simp] theorem State.setXpom_out (v) : (s.setXpom v).out = s.out := rfl
@[simp] theorem State.setXpom_ctl (v) : (s.setXpom v).ctl = s.ctl := rfl
@[simp] theorem State.setXpom_buf (v) : (s.setXpom v).buf = s.buf := rfl
@[simp] theorem State.setXpom_time (v) : (s.setXpom v).time = s.time := rfl
@[simp] theorem State.setXpom_rc1 (v) : (s.setXpom v).rc1 = s.rc1 := rfl
@[simp] theorem State.setXpom_rc2 (v) : (s.setXpom v).rc2 = s.rc2 := rfl
@[simp] theorem State.setXpom_xpom (v) : (s.setXpom v).xpom = v := rfl
@[simp] theorem State.setXpom_stat (v) : (s.setXpom v).stat = s.stat := rfl
@[simp] theorem State.setXpom_locoAddr (v) : (s.setXpom v).locoAddr = s.locoAddr := rfl
@[simp] theorem State.setXpom_rxFifo (v) : (s.setXpom v).rxFifo = s.rxFifo := rfl
@[simp] theorem State.setXpom_raised (v) : (s.setXpom v).raised = s.raised := rfl
@[simp] theorem State.setXpom_cfg (v) : (s.setXpom v).cfg = s.cfg := rfl
@[simp] theorem State.setXpom_response (v) : (s.setXpom v).response = s.response := rfl
@[simp] theorem State.setXpom_opPort (v) : (s.setXpom v).opPort = s.opPort := rfl
@[simp] theorem State.setXpom_turns (v) : (s.setXpom v).turns = s.turns := rfl
@[simp] theorem State.setXpom_fgQueue (v) : (s.setXpom v).fgQueue = s.fgQueue := rfl
@[simp] theorem State.setXpom_twice (v w) : (s.setXpom v).setXpom w = s.setXpom w := rfl
@[simp] theorem State.setXpom_same : s.setXpom s.xpom = s := rfl

@[simp] theorem State.setStat_tx (v) : (s.setStat v).tx = s.tx := rfl
@[simp] theorem State.setStat_out (v) : (s.setStat v).out = s.out := rfl
@[simp] theorem State.setStat_ctl (v) : (s.setStat v).ctl = s.ctl := rfl
@[simp] theorem State.setStat_buf (v) : (s.setStat v).buf = s.buf := rfl
@[simp] theorem State.setStat_time (v) : (s.setStat v).time = s.time := rfl
@[simp] theorem State.setStat_rc1 (v) : (s.setStat v).rc1 = s.rc1 := rfl
@[simp] theorem State.setStat_rc2 (v) : (s.setStat v).rc2 = s.rc2 := rfl
@[simp] theorem State.setStat_xpom (v) : (s.setStat v).xpom = s.xpom := rfl
@[simp] theorem State.setStat_stat (v) : (s.setStat v).stat = v := rfl
@[simp] theorem State.setStat_locoAddr (v) : (s.setStat v).locoAddr = s.locoAddr := rfl
@[simp] theorem State.setStat_rxFifo (v) : (s.setStat v).rxFifo = s.rxFifo := rfl
@[simp] theorem State.setStat_raised (v) : (s.setStat v).raised = s.raised := rfl
@[simp] theorem State.setStat_cfg (v) : (s.setStat v).cfg = s.cfg := rfl
@[simp] theorem State.setStat_response (v) : (s.setStat v).response = s.response := rfl
@[simp] theorem State.setStat_opPort (v) : (s.setStat v).opPort = s.opPort := rfl
@[simp] theorem State.setStat_turns (v) : (s.setStat v).turns = s.turns := rfl
@[simp] theorem State.setStat_fgQueue (v) : (s.setStat v).fgQueue = s.fgQueue := rfl
@[simp] theorem State.setStat_twice (v w) : (s.setStat v).setStat w = s.setStat w := rfl
@[simp] theorem State.setStat_same : s.setStat s.stat = s := rfl

@[simp] theorem State.setLocoAddr_tx (v) : (s.setLocoAddr v).tx = s.tx := rfl
@[simp] theorem State.setLocoAddr_out (v) : (s.setLocoAddr v).out = s.out := rfl
@[simp] theorem State.setLocoAddr_ctl (v) : (s.setLocoAddr v).ctl = s.ctl := rfl
@[simp] theorem State.setLocoAddr_buf (v) : (s.setLocoAddr v).buf = s.buf := rfl
@[simp] theorem State.setLocoAddr_time (v) : (s.setLocoAddr v).time = s.time := rfl
@[simp] theorem State.setLocoAddr_rc1 (v) : (s.setLocoAddr v).rc1 = s.rc1 := rfl
@[simp] theorem State.setLocoAddr_rc2 (v) : (s.setLocoAddr v).rc2 = s.rc2 := rfl
@[simp] theorem State.setLocoAddr_xpom (v) : (s.setLocoAddr v).xpom = s.xpom := rfl
@[simp] theorem State.setLocoAddr_stat (v) : (s.setLocoAddr v).stat = s.stat := rfl
@[simp] theorem State.setLocoAddr_locoAddr (v) : (s.setLocoAddr v).locoAddr = v := rfl
@[simp] theorem State.setLocoAddr_rxFifo (v) : (s.setLocoAddr v).rxFifo = s.rxFifo := rfl
@[simp] theorem State.setLocoAddr_raised (v) : (s.setLocoAddr v).raised = s.raised := rfl
@[simp] theorem State.setLocoAddr_cfg (v) : (s.setLocoAddr v).cfg = s.cfg := rfl
@[simp] theorem State.setLocoAddr_response (v) : (s.setLocoAddr v).response = s.response := rfl
@[simp] theorem State.setLocoAddr_opPort (v) : (s.setLocoAddr v).opPort = s.opPort := rfl
@[simp] theorem State.setLocoAddr_turns (v) : (s.setLocoAddr v).turns = s.turns := rfl
@[simp] theorem State.setLocoAddr_fgQueue (v) : (s.setLocoAddr v).fgQueue = s.fgQueue := rfl
@[simp] theorem State.setLocoAddr_twice (v w) : (s.setLocoAddr v).setLocoAddr w = s.setLocoAddr w := rfl
@[simp] theorem State.setLocoAddr_same : s.setLocoAddr s.locoAddr = s := rfl

@[simp] theorem State.setRxFifo_tx (v) : (s.setRxFifo v).tx = s.tx := rfl
@[simp] theorem State.setRxFifo_out (v) : (s.setRxFifo v).out = s.out := rfl
@[simp] theorem State.setRxFifo_ctl (v) : (s.setRxFifo v).ctl = s.ctl := rfl
@[simp] theorem State.setRxFifo_buf (v) : (s.setRxFifo v).buf = s.buf := rfl
@[simp] theorem State.setRxFifo_time (v) : (s.setRxFifo v).time = s.time := rfl
@[simp] theorem State.setRxFifo_rc1 (v) : (s.setRxFifo v).rc1 = s.rc1 := rfl
@[simp] theorem State.setRxFifo_rc2 (v) : (s.setRxFifo v).rc2 = s.rc2 := rfl
@[simp] theorem State.setRxFifo_xpom (v) : (s.setRxFifo v).xpom = s.xpom := rfl
@[simp] theorem State.setRxFifo_stat (v) : (s.setRxFifo v).stat = s.stat := rfl
@[simp] theorem State.setRxFifo_locoAddr (v) : (s.setRxFifo v).locoAddr = s.locoAddr := rfl
@[simp] theorem State.setRxFifo_rxFifo (v) : (s.setRxFifo v).rxFifo = v := rfl
@[simp] theorem State.setRxFifo_raised (v) : (s.setRxFifo v).raised = s.raised := rfl
@[simp] theorem State.setRxFifo_cfg (v) : (s.setRxFifo v).cfg = s.cfg := rfl
@[simp] theorem State.setRxFifo_response (v) : (s.setRxFifo v).response = s.response := rfl
@[simp] theorem State.setRxFifo_opPort (v) : (s.setRxFifo v).opPort = s.opPort := rfl
@[simp] theorem State.setRxFifo_turns (v) : (s.setRxFifo v).turns = s.turns := rfl
@[simp] theorem State.setRxFifo_fgQueue (v) : (s.setRxFifo v).fgQueue = s.fgQueue := rfl
@[simp] theorem State.setRxFifo_twice (v w) : (s.setRxFifo v).setRxFifo w = s.setRxFifo w := rfl
@[simp] theorem State.setRxFifo_same : s.setRxFifo s.rxFifo = s := rfl

@[simp] theorem State.setRaised_tx (v) : (s.setRaised v).tx = s.tx := rfl
@[simp] theorem State.setRaised_out (v) : (s.setRaised v).out = s.out := rfl
@[simp] theorem State.setRaised_ctl (v) : (s.setRaised v).ctl = s.ctl := rfl
@[simp] theorem State.setRaised_buf (v) : (s.setRaised v).buf = s.buf := rfl
@[simp] theorem State.setRaised_time (v) : (s.setRaised v).time = s.time := rfl
@[simp] theorem State.setRaised_rc1 (v) : (s.setRaised v).rc1 = s.rc1 := rfl
@[simp] theorem State.setRaised_rc2 (v) : (s.setRaised v).rc2 = s.rc2 := rfl
@[simp] theorem State.setRaised_xpom (v) : (s.setRaised v).xpom = s.xpom := rfl
@[simp] theorem State.setRaised_stat (v) : (s.setRaised v).stat = s.stat := rfl
@[simp] theorem State.setRaised_locoAddr (v) : (s.setRaised v).locoAddr = s.locoAddr := rfl
@[simp] theorem State.setRaised_rxFifo (v) : (s.setRaised v).rxFifo = s.rxFifo := rfl
@[simp] theorem State.setRaised_raised (v) : (s.setRaised v).raised = v := rfl
@[simp] theorem State.setRaised_cfg (v) : (s.setRaised v).cfg = s.cfg := rfl
@[simp] theorem State.setRaised_response (v) : (s.setRaised v).response = s.response := rfl
@[simp] theorem State.setRaised_opPort (v) : (s.setRaised v).opPort = s.opPort := rfl
@[simp] theorem State.setRaised_turns (v) : (s.setRaised v).turns = s.turns := rfl
@[simp] theorem State.setRaised_fgQueue (v) : (s.setRaised v).fgQueue = s.fgQueue := rfl
@[simp] theorem State.setRaised_twice (v w) : (s.setRaised v).setRaised w = s.setRaised w := rfl
@[simp] theorem State.setRaised_same : s.setRaised s.raised = s := rfl

@[simp] theorem State.setResponse_tx (v) : (s.setResponse v).tx = s.tx := rfl
@[simp] theorem State.setResponse_out (v) : (s.setResponse v).out = s.out := rfl
@[simp] theorem State.setResponse_ctl (v) : (s.setResponse v).ctl = s.ctl := rfl
@[simp] theorem State.setResponse_buf (v) : (s.setResponse v).buf = s.buf := rfl
@[simp] theorem State.setResponse_time (v) : (s.setResponse v).time = s.time := rfl
@[simp] theorem State.setResponse_rc1 (v) : (s.setResponse v).rc1 = s.rc1 := rfl
@[simp] theorem State.setResponse_rc2 (v) : (s.setResponse v).rc2 = s.rc2 := rfl
@[simp] theorem State.setResponse_xpom (v) : (s.setResponse v).xpom = s.xpom := rfl
@[simp] theorem State.setResponse_stat (v) : (s.setResponse v).stat = s.stat := rfl
@[simp] theorem State.setResponse_locoAddr (v) : (s.setResponse v).locoAddr = s.locoAddr := rfl
@[simp] theorem State.setResponse_rxFifo (v) : (s.setResponse v).rxFifo = s.rxFifo := rfl
@[simp] theorem State.setResponse_raised (v) : (s.setResponse v).raised = s.raised := rfl
@[simp] theorem State.setResponse_cfg (v) : (s.setResponse v).cfg = s.cfg := rfl
@[simp] theorem State.setResponse_response (v) : (s.setResponse v).response = v := rfl
@[simp] theorem State.setResponse_opPort (v) : (s.setResponse v).opPort = s.opPort := rfl
@[simp] theorem State.setResponse_turns (v) : (s.setResponse v).turns = s.turns := rfl
@[simp] theorem State.setResponse_fgQueue (v) : (s.setResponse v).fgQueue = s.fgQueue := rfl
@[simp] theorem State.setResponse_twice (v w) : (s.setResponse v).setResponse w = s.setResponse w := rfl
@[simp] theorem State.setResponse_same : s.setResponse s.response = s := rfl

@[simp] theorem State.setOpPort_tx (v) : (s.setOpPort v).tx = s.tx := rfl
@[simp] theorem State.setOpPort_out (v) : (s.setOpPort v).out = s.out := rfl
@[simp] theorem State.setOpPort_ctl (v) : (s.setOpPort v).ctl = s.ctl := rfl
@[simp] theorem State.setOpPort_buf (v) : (s.setOpPort v).buf = s.buf := rfl
@[simp] theorem State.setOpPort_time (v) : (s.setOpPort v).time = s.time := rfl
@[simp] theorem State.setOpPort_rc1 (v) : (s.setOpPort v).rc1 = s.rc1 := rfl
@[simp] theorem State.setOpPort_rc2 (v) : (s.setOpPort v).rc2 = s.rc2 := rfl
@[simp] theorem State.setOpPort_xpom (v) : (s.setOpPort v).xpom = s.xpom := rfl
@[simp] theorem State.setOpPort_stat (v) : (s.setOpPort v).stat = s.stat := rfl
@[simp] theorem State.setOpPort_locoAddr (v) : (s.setOpPort v).locoAddr = s.locoAddr := rfl
@[simp] theorem State.setOpPort_rxFifo (v) : (s.setOpPort v).rxFifo = s.rxFifo := rfl
@[simp] theorem State.setOpPort_raised (v) : (s.setOpPort v).raised = s.raised := rfl
@[simp] theorem State.setOpPort_cfg (v) : (s.setOpPort v).cfg = s.cfg := rfl
@[simp] theorem State.setOpPort_response (v) : (s.setOpPort v).response = s.response := rfl
@[simp] theorem State.setOpPort_opPort (v) : (s.setOpPort v).opPort = v := rfl
@[simp] theorem State.setOpPort_turns (v) : (s.setOpPort v).turns = s.turns := rfl
@[simp] theorem State.setOpPort_fgQueue (v) : (s.setOpPort v).fgQueue = s.fgQueue := rfl
@[simp] theorem State.setOpPort_twice (v w) : (s.setOpPort v).setOpPort w = s.setOpPort w := rfl
@[simp] theorem State.setOpPort_same : s.setOpPort s.opPort = s := rfl

@[simp] theorem State.setTurns_tx (v) : (s.setTurns v).tx = s.tx := rfl
@[simp] theorem State.setTurns_out (v) : (s.setTurns v).out = s.out := rfl
@[simp] theorem State.setTurns_ctl (v) : (s.setTurns v).ctl = s.ctl := rfl
@[simp] theorem State.setTurns_buf (v) : (s.setTurns v).buf = s.buf := rfl
@[simp] theorem State.setTurns_time (v) : (s.setTurns v).time = s.time := rfl
@[simp] theorem State.setTurns_rc1 (v) : (s.setTurns v).rc1 = s.rc1 := rfl
@[simp] theorem State.setTurns_rc2 (v) : (s.setTurns v).rc2 = s.rc2 := rfl
@[simp] theorem State.setTurns_xpom (v) : (s.setTurns v).xpom = s.xpom := rfl
@[simp] theorem State.setTurns_stat (v) : (s.setTurns v).stat = s.stat := rfl
@[simp] theorem State.setTurns_locoAddr (v) : (s.setTurns v).locoAddr = s.locoAddr := rfl
@[simp] theorem State.setTurns_rxFifo (v) : (s.setTurns v).rxFifo = s.rxFifo := rfl
@[simp] theorem State.setTurns_raised (v) : (s.setTurns v).raised = s.raised := rfl
@[simp] theorem State.setTurns_cfg (v) : (s.setTurns v).cfg = s.cfg := rfl
@[simp] theorem State.setTurns_response (v) : (s.setTurns v).response = s.response := rfl
@[simp] theorem State.setTurns_opPort (v) : (s.setTurns v).opPort = s.opPort := rfl
@[simp] theorem State.setTurns_turns (v) : (s.setTurns v).turns = v := rfl
@[simp] theorem State.setTurns_fgQueue (v) : (s.setTurns v).fgQueue = s.fgQueue := rfl
@[simp] theorem State.setTurns_twice (v w) : (s.setTurns v).setTurns w = s.setTurns w := rfl
@[simp] theorem State.setTurns_same : s.setTurns s.turns = s := rfl

@[simp] theorem State.setFgQueue_tx (v) : (s.setFgQueue v).tx = s.tx := rfl
@[simp] theorem State.setFgQueue_out (v) : (s.setFgQueue v).out = s.out := rfl
@[simp] theorem State.setFgQueue_ctl (v) : (s.setFgQueue v).ctl = s.ctl := rfl
@[simp] theorem State.setFgQueue_buf (v) : (s.setFgQueue v).buf = s.buf := rfl
@[simp] theorem State.setFgQueue_time (v) : (s.setFgQueue v).time = s.time := rfl
@[simp] theorem State.setFgQueue_rc1 (v) : (s.setFgQueue v).rc1 = s.rc1 := rfl
@[simp] theorem State.setFgQueue_rc2 (v) : (s.setFgQueue v).rc2 = s.rc2 := rfl
@[simp] theorem State.setFgQueue_xpom (v) : (s.setFgQueue v).xpom = s.xpom := rfl
@[simp] theorem State.setFgQueue_stat (v) : (s.setFgQueue v).stat = s.stat := rfl
@[simp] theorem State.setFgQueue_locoAddr (v) : (s.setFgQueue v).locoAddr = s.locoAddr := rfl
@[simp] theorem State.setFgQueue_rxFifo (v) : (s.setFgQueue v).rxFifo = s.rxFifo := rfl
@[simp] theorem State.setFgQueue_raised (v) : (s.setFgQueue v).raised = s.raised := rfl
@[simp] theorem State.setFgQueue_cfg (v) : (s.setFgQueue v).cfg = s.cfg := rfl
@[simp] theorem State.setFgQueue_response (v) : (s.setFgQueue v).response = s.response := rfl
@[simp] theorem State.setFgQueue_opPort (v) : (s.setFgQueue v).opPort = s.opPort := rfl
@[simp] theorem State.setFgQueue_turns (v) : (s.setFgQueue v).turns = s.turns := rfl
@[simp] theorem State.setFgQueue_fgQueue (v) : (s.setFgQueue v).fgQueue = v := rfl
@[simp] theorem State.setFgQueue_twice (v w) : (s.setFgQueue v).setFgQueue w = s.setFgQueue w := rfl
@[simp] theorem State.setFgQueue_same : s.setFgQueue s.fgQueue = s := rfl

end Sys2Proof.Machine
end

