-- ==== Sys2Proof/Laws/Ops.lean ====
section
/-! SUPPORT. For each shared operation one lemma that says once everything it can do: which fields it writes, and with
what. Later proofs cite these instead of unfolding the operation. -/

namespace Sys2Proof.Machine

/-! ## Tables and stores -/

theorem updStat_eq (s : State) (idx : BitVec 8) (f : StatEntry → StatEntry) :
    s.updStat idx f =
      s.setStat (if s.hasSlot idx then Memory.write StatEntry.zero s.stat idx.toNat (f (s.statAt idx)) else s.stat) := by
  unfold State.updStat
  split <;> simp

/-- An entry of a statistics update on an index with a slot is the updated one. -/
theorem statAt_updStat (s : State) (idx : BitVec 8) (f : StatEntry → StatEntry) (hs : s.hasSlot idx = true)
    (hw : Memory.wf StatEntry.zero s.stat) : (s.updStat idx f).statAt idx = f (s.statAt idx) := by
  simp [updStat_eq, hs, State.statAt, Memory.read_write_same _ _ hw]

/-- A statistics update leaves the other entries alone. -/
theorem statAt_updStat_other (s : State) (idx k : BitVec 8) (f : StatEntry → StatEntry) (hne : k ≠ idx) :
    (s.updStat idx f).statAt k = s.statAt k := by
  have hk : k.toNat ≠ idx.toNat := fun h => hne (BitVec.eq_of_toNat_eq h)
  rw [updStat_eq]
  split
  · exact Memory.read_write_other _ hk
  · rfl

/-- A statistics update keeps the table in canonical form. -/
theorem updStat_wf (s : State) (idx : BitVec 8) (f : StatEntry → StatEntry)
    (hw : Memory.wf StatEntry.zero s.stat) : Memory.wf StatEntry.zero (s.updStat idx f).stat := by
  rw [updStat_eq]
  split
  · exact Memory.write_wf _ _ hw
  · exact hw

/-- The loco-address table after a write reads as written there, and as before elsewhere. -/
theorem locoAddrAt_setLocoAddrAt (s : State) (idx : BitVec 8) (a : BitVec 16)
    (hw : Memory.wf broadcast s.locoAddr) : (s.setLocoAddrAt idx a).locoAddrAt idx = a :=
  Memory.read_write_same _ _ hw

theorem locoAddrAt_setLocoAddrAt_other (s : State) (idx k : BitVec 8) (a : BitVec 16) (hne : k ≠ idx) :
    (s.setLocoAddrAt idx a).locoAddrAt k = s.locoAddrAt k :=
  Memory.read_write_other _ fun h => hne (BitVec.eq_of_toNat_eq h)

/-- A write to the loco-address table keeps it in canonical form. -/
theorem setLocoAddrAt_wf (s : State) (idx : BitVec 8) (a : BitVec 16) (hw : Memory.wf broadcast s.locoAddr) :
    Memory.wf broadcast (s.setLocoAddrAt idx a).locoAddr :=
  Memory.write_wf _ _ hw

/-- The statistics of the reset state are in canonical form. -/
theorem reset_stat_wf (cfg : Config) : Memory.wf StatEntry.zero (State.resetWith cfg).stat :=
  Memory.wf_nil

/-- The loco addresses of the reset state are in canonical form. -/
theorem reset_locoAddr_wf (cfg : Config) : Memory.wf broadcast (State.resetWith cfg).locoAddr :=
  Memory.wf_nil

/-- What a frame store holds after bytes are written at `k`, `k + 1`, ... -/
theorem getElem?_storeBytes (l : List Byte) (k i : Nat) (v : Vector Byte 9) (hi : i < 9) :
    (storeBytes k l v)[i]? = if k ≤ i ∧ i < k + l.length then l[i - k]? else v[i]? := by
  induction l generalizing k v with
  | nil =>
    have : ¬ (k ≤ i ∧ i < k + 0) := by omega
    simp only [storeBytes, List.length_nil, this, if_false]
  | cons b l ih =>
    simp only [storeBytes, ih, List.length_cons]
    by_cases hki : k = i
    · subst hki
      have h1 : ¬ (k + 1 ≤ k ∧ k < k + 1 + l.length) := by omega
      have h2 : k ≤ k ∧ k < k + (l.length + 1) := by omega
      rw [if_neg h1, if_pos h2]
      simp [hi]
    · by_cases hlt : k < i
      · have hsub : i - k = (i - (k + 1)) + 1 := by omega
        by_cases hin : i < k + 1 + l.length
        · rw [if_pos ⟨by omega, hin⟩, if_pos ⟨by omega, by omega⟩, hsub, List.getElem?_cons_succ]
        · rw [if_neg (by omega), if_neg (by omega)]
          simp [hki]
      · rw [if_neg (by omega), if_neg (by omega)]
        simp [hki]

/-- What slot `q` holds after `f` on each slot of the XPOM table. -/
theorem xpomAt_mapSlots (f : XpomSlot → XpomSlot) (s : State) (q : BitVec 2) :
    (s.setXpom (mapSlots f s.xpom)).xpomAt q = f (s.xpomAt q) := by
  have hq : q = 0 ∨ q = 1 ∨ q = 2 ∨ q = 3 := by revert q; decide
  rcases hq with rfl | rfl | rfl | rfl <;> rfl

/-- Writing one slot of the XPOM table: it reads as written, the others as before. -/
theorem xpomAt_setXpomAt (s : State) (p q : BitVec 2) (x : XpomSlot) :
    (s.setXpomAt p x).xpomAt q = if p = q then x else s.xpomAt q := by
  simp only [State.xpomAt, State.setXpomAt, State.setXpom, Vector.getElem_set, BitVec.toNat_inj]

/-! ## Faults, answers, receiver -/

@[simp] theorem raise_eq (f : Raised) (s : State) : raise f s = s.setRaised (f :: s.raised) := rfl

@[simp] theorem respond_eq (r : Response) (s : State) : respond r s = s.setResponse (some r) := rfl

@[simp] theorem refuse_eq (f : Raised) (s : State) :
    refuse f s = (s.setRaised (f :: s.raised)).setResponse (some (.status f)) := rfl

theorem rxAppend_eq (b : Byte) (s : State) :
    rxAppend b s =
      s.setRxFifo (if s.out.rxEn && decide (s.rxFifo.length < s.cfg.rxDepth) then s.rxFifo ++ [b] else s.rxFifo) := by
  unfold rxAppend
  split <;> simp

/-! ## Time -/

theorem timeAdvance_eq (s : State) :
    timeAdvance s =
      s.setTime
        (if s.time.msDiv.toNat = s.cfg.ticksPerMs - 1 then { ms := s.time.ms + 1, msDiv := 0 }
          else { s.time with msDiv := s.time.msDiv + 1 }) := by
  unfold timeAdvance
  split <;> rfl

/-! ## Channel 1 -/

/-- What Combine1 makes of the record. -/
def Rc1.combined (ms : BitVec 32) (r : Rc1) : Rc1 :=
  if r.hiValid && r.loValid then
    { r with addr := combineAddr r.adrHi r.adrLo, addrValid := true, stamp := ms, hiValid := false, loValid := false }
  else r

theorem combine1_eq (s : State) : combine1 s = s.setRc1 (s.rc1.combined s.time.ms) := by
  unfold combine1 Rc1.combined
  split <;> simp

theorem rc1AdrHigh_eq (val : BitVec 8) (s : State) :
    rc1AdrHigh val s = s.setRc1 (({ s.rc1 with adrHi := val, hiValid := true } : Rc1).combined s.time.ms) := by
  simp [rc1AdrHigh, combine1_eq]

theorem rc1AdrLow_eq (val : BitVec 8) (s : State) :
    rc1AdrLow val s = s.setRc1 (({ s.rc1 with adrLo := val, loValid := true } : Rc1).combined s.time.ms) := by
  simp [rc1AdrLow, combine1_eq]

/-- A channel-1 decode writes the channel-1 record and the ghost log only. -/
theorem ch1Decode_writes (raw : List Byte) (s : State) :
    ∃ r log, ch1Decode raw s = (s.setRc1 r).setRaised log := by
  have pair : ∀ d0 d1, ∃ r log, ch1Pair d0 d1 s = (s.setRc1 r).setRaised log := by
    intro d0 d1
    unfold ch1Pair
    split
    · exact ⟨s.rc1, _, rfl⟩
    · split
      · exact ⟨({ s.rc1 with adrHi := dg12Val d0 d1, hiValid := true } : Rc1).combined s.time.ms, s.raised, rc1AdrHigh_eq _ s⟩
      · split
        · exact ⟨({ s.rc1 with adrLo := dg12Val d0 d1, loValid := true } : Rc1).combined s.time.ms, s.raised, rc1AdrLow_eq _ s⟩
        · exact ⟨s.rc1, s.raised, rfl⟩
  unfold ch1Decode
  split
  · exact pair _ _
  · exact ⟨s.rc1, _, rfl⟩

/-! ## Channel 2 -/

/-- What Combine2 makes of the record. -/
def Rc2.combined (r : Rc2) : Rc2 :=
  if r.hiValid && r.loValid then
    { r with addr := combineAddr r.adrHi r.adrLo, addrValid := true, hiValid := false, loValid := false }
  else r

theorem combine2_eq (s : State) : combine2 s = s.setRc2 s.rc2.combined := by
  unfold combine2 Rc2.combined
  split <;> simp

/-- What a channel-2 frame does between the command and the rotation: it writes the channel-2 records, the XPOM table
and the ghost log, and then nothing, or a response, or a touch in the entry of its index. -/
def Ch2Effect (idx : BitVec 8) (s t : State) : Prop :=
  ∃ r x log, t = ((s.setRc2 r).setXpom x).setRaised log ∨ t = statResponse idx (((s.setRc2 r).setXpom x).setRaised log) ∨
    t = statTouch idx (((s.setRc2 r).setXpom x).setRaised log)

theorem Ch2Effect.nothing (idx : BitVec 8) (s : State) : Ch2Effect idx s s :=
  ⟨s.rc2, s.xpom, s.raised, Or.inl rfl⟩

theorem Ch2Effect.raise (idx : BitVec 8) (s : State) (f : Raised) : Ch2Effect idx s (Machine.raise f s) :=
  ⟨s.rc2, s.xpom, _, Or.inl rfl⟩

theorem Ch2Effect.record (idx : BitVec 8) (s : State) (r : Rc2) : Ch2Effect idx s (statResponse idx (s.setRc2 r)) :=
  ⟨r, s.xpom, s.raised, Or.inr (Or.inl rfl)⟩

theorem rc2Xpom_effect (q : BitVec 2) (b0 b1 b2 b3 : Byte) (idx : BitVec 8) (s : State) :
    Ch2Effect idx s (rc2Xpom q b0 b1 b2 b3 idx s) := by
  unfold rc2Xpom
  split
  · exact ⟨s.rc2, s.xpom, s.raised, Or.inr (Or.inl rfl)⟩
  · exact ⟨s.rc2, s.xpom.set q.toNat ⟨b0, b1, b2, b3, true⟩, s.raised, Or.inr (Or.inl rfl)⟩

theorem rc2Unknown_effect (id : Nat) (idx : BitVec 8) (s : State) : Ch2Effect idx s (rc2Unknown id idx s) :=
  ⟨s.rc2, s.xpom, _, Or.inr (Or.inr rfl)⟩

theorem rc2AdrHigh_effect (val idx : BitVec 8) (s : State) : Ch2Effect idx s (rc2AdrHigh val idx s) := by
  unfold rc2AdrHigh
  rw [combine2_eq]
  exact Ch2Effect.record idx s _

theorem rc2AdrLow_effect (val idx : BitVec 8) (s : State) : Ch2Effect idx s (rc2AdrLow val idx s) := by
  unfold rc2AdrLow
  rw [combine2_eq]
  exact Ch2Effect.record idx s _

theorem ch2Xpom_effect (d : List (BitVec 8)) (q : BitVec 2) (idx : BitVec 8) (s : State) :
    Ch2Effect idx s (ch2Xpom d q idx s) := by
  unfold ch2Xpom
  split
  · exact rc2Xpom_effect _ _ _ _ _ _ _
  · exact Ch2Effect.raise _ _ _

theorem ch2Dyn_effect (val : BitVec 8) (rest : List (BitVec 8)) (idx : BitVec 8) (s : State) :
    Ch2Effect idx s (ch2Dyn val rest idx s) := by
  unfold ch2Dyn
  split
  · exact Ch2Effect.record idx s _
  · exact Ch2Effect.record idx s _

theorem ch2Structured_effect (d : List (BitVec 8)) (idx : BitVec 8) (s : State) :
    Ch2Effect idx s (ch2Structured d idx s) := by
  unfold ch2Structured
  split
  · split
    · exact Ch2Effect.record idx s _
    · exact rc2AdrHigh_effect _ _ _
    · exact rc2AdrLow_effect _ _ _
    · exact ch2Dyn_effect _ _ _ _
    · exact ch2Xpom_effect _ _ _ _
    · exact ch2Xpom_effect _ _ _ _
    · exact ch2Xpom_effect _ _ _ _
    · exact ch2Xpom_effect _ _ _ _
    · exact rc2Unknown_effect _ _ _
  · exact Ch2Effect.raise _ _ _

/-- The body of a channel-2 decode, whatever was received. -/
theorem ch2Body_effect (raw : List Byte) (idx : BitVec 8) (s : State) : Ch2Effect idx s (ch2Body raw idx s) := by
  unfold ch2Body
  split
  · exact Ch2Effect.nothing _ _
  · split
    · exact Ch2Effect.raise _ _ _
    · unfold ch2Symbols
      split
      · exact Ch2Effect.raise _ _ _
      · split
        · exact ⟨s.rc2, s.xpom, s.raised, Or.inr (Or.inl rfl)⟩
        · split
          · exact ⟨s.rc2, s.xpom, s.raised, Or.inr (Or.inr rfl)⟩
          · exact ch2Structured_effect _ _ _

/-! ## Transmitter -/

/-- What StartHalf makes of the transmitter; the output is the polarity. -/
theorem startHalf_eq (v : Bool) (s : State) :
    startHalf v s =
      (s.setTx { s.tx with longPulse := !v, halfSel := !s.tx.halfSel }).setOut { s.out with trackPol := !s.tx.halfSel } :=
  rfl

/-- EndOfFrame goes to CUTOUT at step 0 or to READY, and selects the next preamble (40_tick R120, R125). -/
theorem endOfFrame_cases (s : State) :
    (s.ctl.mode = .railcom ∧ s.ctl.cutoutInhibit = false ∧
      endOfFrame s = s.setTx { s.tx with txState := .cutout, cutoutStep := 0, preambleLen := preRc }) ∨
    (s.ctl.mode = .programming ∧ endOfFrame s = s.setTx { s.tx with txState := .ready, preambleLen := prePgm }) ∨
    ((s.ctl.mode = .noRailcom ∨ s.ctl.mode = .railcom ∧ s.ctl.cutoutInhibit = true) ∧
      endOfFrame s = s.setTx { s.tx with txState := .ready, preambleLen := preNorc }) := by
  unfold endOfFrame
  cases hm : s.ctl.mode <;> cases hc : s.ctl.cutoutInhibit <;> simp

/-- A skipped or taken action of a cutout step. -/
theorem whenPowered_cases (f : State → State) (s : State) :
    (s.ctl.boosterOn = true ∧ whenPowered f s = f s) ∨ (s.ctl.boosterOn = false ∧ whenPowered f s = s) := by
  unfold whenPowered
  cases h : s.ctl.boosterOn <;> simp

end Sys2Proof.Machine
end

