-- ==== Sys2Proof/Laws/PerInstr.lean ====
section
/-! SUPPORT. The family EncodeFits, one lemma per constructor of Instr: the invocation that stands for an operation is
inside the bounds of its form (a word has no more bits than its format has, 30_encoding R99). -/

namespace Sys2Proof.Laws

/-- What the family says of an instruction. -/
def EncodeFits.Statement (i : Instr) : Prop :=
  (encode i).fits = true

theorem encodeDg12_lt (id : Nat) (h : id < 16) (val : BitVec 8) : encodeDg12 id val < 2 ^ 12 := by
  have := val.isLt
  unfold encodeDg12
  omega

theorem encodeDg18_lt (id : Nat) (h : id < 16) (val : BitVec 8) (sub : BitVec 6) : encodeDg18 id val sub < 2 ^ 18 := by
  have := val.isLt
  have := sub.isLt
  unfold encodeDg18
  omega

theorem encodeDg36_lt (id : Nat) (h : id < 16) (b0 b1 b2 b3 : Byte) : encodeDg36 id b0 b1 b2 b3 < 2 ^ 36 := by
  have := b0.isLt
  have := b1.isLt
  have := b2.isLt
  have := b3.isLt
  unfold encodeDg36
  omega

theorem EncodeFits.tick : EncodeFits.Statement .tick :=
  rfl

theorem EncodeFits.ready : EncodeFits.Statement .ready :=
  rfl

theorem EncodeFits.preSlot : EncodeFits.Statement .preSlot :=
  rfl

theorem EncodeFits.dataSlot : EncodeFits.Statement .dataSlot :=
  rfl

theorem EncodeFits.hamdec (b : Byte) : EncodeFits.Statement (.hamdec b) :=
  rfl

theorem EncodeFits.ch1dec (raw : List Byte) : EncodeFits.Statement (.ch1dec raw) :=
  rfl

theorem EncodeFits.ch2dec (raw : List Byte) (idx : BitVec 8) : EncodeFits.Statement (.ch2dec raw idx) :=
  rfl

theorem EncodeFits.assemble (a : BitVec 16) (payload : List Byte) : EncodeFits.Statement (.assemble a payload) :=
  rfl

theorem EncodeFits.submit (idx : BitVec 8) (a : BitVec 16) (payload : List Byte) : EncodeFits.Statement (.submit idx a payload) :=
  rfl

theorem EncodeFits.setMode (m : BitVec 2) : EncodeFits.Statement (.setMode m) :=
  rfl

theorem EncodeFits.getMode : EncodeFits.Statement .getMode :=
  rfl

theorem EncodeFits.boosterOn : EncodeFits.Statement .boosterOn :=
  rfl

theorem EncodeFits.boosterOff : EncodeFits.Statement .boosterOff :=
  rfl

theorem EncodeFits.setCutoutInhibit (v : BitVec 1) : EncodeFits.Statement (.setCutoutInhibit v) :=
  rfl

theorem EncodeFits.getRc1Addr : EncodeFits.Statement .getRc1Addr :=
  rfl

theorem EncodeFits.getRc2Rate (idx : BitVec 8) : EncodeFits.Statement (.getRc2Rate idx) :=
  rfl

theorem EncodeFits.getRc2Age (idx : BitVec 8) : EncodeFits.Statement (.getRc2Age idx) :=
  rfl

theorem EncodeFits.getCv : EncodeFits.Statement .getCv :=
  rfl

theorem EncodeFits.clrCv : EncodeFits.Statement .clrCv :=
  rfl

theorem EncodeFits.getXpom (q : BitVec 2) : EncodeFits.Statement (.getXpom q) :=
  rfl

theorem EncodeFits.clrXpom (q : BitVec 2) : EncodeFits.Statement (.clrXpom q) :=
  rfl

theorem EncodeFits.getDyn : EncodeFits.Statement .getDyn :=
  rfl

theorem EncodeFits.clrDyn : EncodeFits.Statement .clrDyn :=
  rfl

theorem EncodeFits.getRc2Addr : EncodeFits.Statement .getRc2Addr :=
  rfl

theorem EncodeFits.clrRc2Addr : EncodeFits.Statement .clrRc2Addr :=
  rfl

theorem EncodeFits.getBufBusy : EncodeFits.Statement .getBufBusy :=
  rfl

theorem EncodeFits.getMs : EncodeFits.Statement .getMs :=
  rfl

theorem EncodeFits.rxbyte (b : Byte) : EncodeFits.Statement (.rxbyte b) :=
  rfl

theorem EncodeFits.coNop0 : EncodeFits.Statement .coNop0 :=
  rfl

theorem EncodeFits.coForcePos : EncodeFits.Statement .coForcePos :=
  rfl

theorem EncodeFits.coAssert : EncodeFits.Statement .coAssert :=
  rfl

theorem EncodeFits.coIdle3 : EncodeFits.Statement .coIdle3 :=
  rfl

theorem EncodeFits.coRxEnable : EncodeFits.Statement .coRxEnable :=
  rfl

theorem EncodeFits.coRxFlush : EncodeFits.Statement .coRxFlush :=
  rfl

theorem EncodeFits.coIdle6 : EncodeFits.Statement .coIdle6 :=
  rfl

theorem EncodeFits.coIdle7 : EncodeFits.Statement .coIdle7 :=
  rfl

theorem EncodeFits.coIdle8 : EncodeFits.Statement .coIdle8 :=
  rfl

theorem EncodeFits.coReadCh1 : EncodeFits.Statement .coReadCh1 :=
  rfl

theorem EncodeFits.coIdle10 : EncodeFits.Statement .coIdle10 :=
  rfl

theorem EncodeFits.coIdle11 : EncodeFits.Statement .coIdle11 :=
  rfl

theorem EncodeFits.coIdle12 : EncodeFits.Statement .coIdle12 :=
  rfl

theorem EncodeFits.coIdle13 : EncodeFits.Statement .coIdle13 :=
  rfl

theorem EncodeFits.coIdle14 : EncodeFits.Statement .coIdle14 :=
  rfl

theorem EncodeFits.coIdle15 : EncodeFits.Statement .coIdle15 :=
  rfl

theorem EncodeFits.coIdle16 : EncodeFits.Statement .coIdle16 :=
  rfl

theorem EncodeFits.coReadCh2 : EncodeFits.Statement .coReadCh2 :=
  rfl

theorem EncodeFits.coEnd : EncodeFits.Statement .coEnd :=
  rfl

theorem EncodeFits.txsReady : EncodeFits.Statement .txsReady :=
  rfl

theorem EncodeFits.txsPreamble : EncodeFits.Statement .txsPreamble :=
  rfl

theorem EncodeFits.txsData : EncodeFits.Statement .txsData :=
  rfl

theorem EncodeFits.txsCutout : EncodeFits.Statement .txsCutout :=
  rfl

theorem EncodeFits.modeNoRailcom : EncodeFits.Statement .modeNoRailcom :=
  rfl

theorem EncodeFits.modeRailcom : EncodeFits.Statement .modeRailcom :=
  rfl

theorem EncodeFits.modeProgramming : EncodeFits.Statement .modeProgramming :=
  rfl

theorem EncodeFits.modeReserved3 : EncodeFits.Statement .modeReserved3 :=
  rfl

theorem EncodeFits.rc1AdrHigh (val : BitVec 8) : EncodeFits.Statement (.rc1AdrHigh val) :=
  decide_eq_true (encodeDg12_lt 1 (by decide) val)

theorem EncodeFits.rc1AdrLow (val : BitVec 8) : EncodeFits.Statement (.rc1AdrLow val) :=
  decide_eq_true (encodeDg12_lt 2 (by decide) val)

theorem EncodeFits.rc2Pom (val : BitVec 8) : EncodeFits.Statement (.rc2Pom val) :=
  decide_eq_true (encodeDg12_lt 0 (by decide) val)

theorem EncodeFits.rc2AdrHigh (val : BitVec 8) : EncodeFits.Statement (.rc2AdrHigh val) :=
  decide_eq_true (encodeDg12_lt 1 (by decide) val)

theorem EncodeFits.rc2AdrLow (val : BitVec 8) : EncodeFits.Statement (.rc2AdrLow val) :=
  decide_eq_true (encodeDg12_lt 2 (by decide) val)

theorem EncodeFits.rc2Dyn (val : BitVec 8) (sub : BitVec 6) : EncodeFits.Statement (.rc2Dyn val sub) :=
  decide_eq_true (encodeDg18_lt 7 (by decide) val sub)

theorem EncodeFits.rc2DynNosub (val : BitVec 8) : EncodeFits.Statement (.rc2DynNosub val) :=
  decide_eq_true (encodeDg12_lt 7 (by decide) val)

theorem EncodeFits.rc2Xpom0 (b0 b1 b2 b3 : Byte) : EncodeFits.Statement (.rc2Xpom0 b0 b1 b2 b3) :=
  decide_eq_true (encodeDg36_lt 8 (by decide) b0 b1 b2 b3)

theorem EncodeFits.rc2Xpom1 (b0 b1 b2 b3 : Byte) : EncodeFits.Statement (.rc2Xpom1 b0 b1 b2 b3) :=
  decide_eq_true (encodeDg36_lt 9 (by decide) b0 b1 b2 b3)

theorem EncodeFits.rc2Xpom2 (b0 b1 b2 b3 : Byte) : EncodeFits.Statement (.rc2Xpom2 b0 b1 b2 b3) :=
  decide_eq_true (encodeDg36_lt 10 (by decide) b0 b1 b2 b3)

theorem EncodeFits.rc2Xpom3 (b0 b1 b2 b3 : Byte) : EncodeFits.Statement (.rc2Xpom3 b0 b1 b2 b3) :=
  decide_eq_true (encodeDg36_lt 11 (by decide) b0 b1 b2 b3)

theorem EncodeFits.rc2Unknown3 (payload : BitVec 8) : EncodeFits.Statement (.rc2Unknown3 payload) :=
  decide_eq_true (encodeDg12_lt 3 (by decide) payload)

theorem EncodeFits.rc2Unknown4 (payload : BitVec 8) : EncodeFits.Statement (.rc2Unknown4 payload) :=
  decide_eq_true (encodeDg12_lt 4 (by decide) payload)

theorem EncodeFits.rc2Unknown5 (payload : BitVec 8) : EncodeFits.Statement (.rc2Unknown5 payload) :=
  decide_eq_true (encodeDg12_lt 5 (by decide) payload)

theorem EncodeFits.rc2Unknown6 (payload : BitVec 8) : EncodeFits.Statement (.rc2Unknown6 payload) :=
  decide_eq_true (encodeDg12_lt 6 (by decide) payload)

theorem EncodeFits.rc2Unknown12 (payload : BitVec 8) : EncodeFits.Statement (.rc2Unknown12 payload) :=
  decide_eq_true (encodeDg12_lt 12 (by decide) payload)

theorem EncodeFits.rc2Unknown13 (payload : BitVec 8) : EncodeFits.Statement (.rc2Unknown13 payload) :=
  decide_eq_true (encodeDg12_lt 13 (by decide) payload)

theorem EncodeFits.rc2Unknown14 (payload : BitVec 8) : EncodeFits.Statement (.rc2Unknown14 payload) :=
  decide_eq_true (encodeDg12_lt 14 (by decide) payload)

theorem EncodeFits.rc2Unknown15 (payload : BitVec 8) : EncodeFits.Statement (.rc2Unknown15 payload) :=
  decide_eq_true (encodeDg12_lt 15 (by decide) payload)

theorem EncodeFits.rcData00 : EncodeFits.Statement .rcData00 :=
  rfl

theorem EncodeFits.rcData01 : EncodeFits.Statement .rcData01 :=
  rfl

theorem EncodeFits.rcData02 : EncodeFits.Statement .rcData02 :=
  rfl

theorem EncodeFits.rcData03 : EncodeFits.Statement .rcData03 :=
  rfl

theorem EncodeFits.rcData04 : EncodeFits.Statement .rcData04 :=
  rfl

theorem EncodeFits.rcData05 : EncodeFits.Statement .rcData05 :=
  rfl

theorem EncodeFits.rcData06 : EncodeFits.Statement .rcData06 :=
  rfl

theorem EncodeFits.rcData07 : EncodeFits.Statement .rcData07 :=
  rfl

theorem EncodeFits.rcData08 : EncodeFits.Statement .rcData08 :=
  rfl

theorem EncodeFits.rcData09 : EncodeFits.Statement .rcData09 :=
  rfl

theorem EncodeFits.rcData0A : EncodeFits.Statement .rcData0A :=
  rfl

theorem EncodeFits.rcData0B : EncodeFits.Statement .rcData0B :=
  rfl

theorem EncodeFits.rcData0C : EncodeFits.Statement .rcData0C :=
  rfl

theorem EncodeFits.rcData0D : EncodeFits.Statement .rcData0D :=
  rfl

theorem EncodeFits.rcData0E : EncodeFits.Statement .rcData0E :=
  rfl

theorem EncodeFits.rcData0F : EncodeFits.Statement .rcData0F :=
  rfl

theorem EncodeFits.rcData10 : EncodeFits.Statement .rcData10 :=
  rfl

theorem EncodeFits.rcData11 : EncodeFits.Statement .rcData11 :=
  rfl

theorem EncodeFits.rcData12 : EncodeFits.Statement .rcData12 :=
  rfl

theorem EncodeFits.rcData13 : EncodeFits.Statement .rcData13 :=
  rfl

theorem EncodeFits.rcData14 : EncodeFits.Statement .rcData14 :=
  rfl

theorem EncodeFits.rcData15 : EncodeFits.Statement .rcData15 :=
  rfl

theorem EncodeFits.rcData16 : EncodeFits.Statement .rcData16 :=
  rfl

theorem EncodeFits.rcData17 : EncodeFits.Statement .rcData17 :=
  rfl

theorem EncodeFits.rcData18 : EncodeFits.Statement .rcData18 :=
  rfl

theorem EncodeFits.rcData19 : EncodeFits.Statement .rcData19 :=
  rfl

theorem EncodeFits.rcData1A : EncodeFits.Statement .rcData1A :=
  rfl

theorem EncodeFits.rcData1B : EncodeFits.Statement .rcData1B :=
  rfl

theorem EncodeFits.rcData1C : EncodeFits.Statement .rcData1C :=
  rfl

theorem EncodeFits.rcData1D : EncodeFits.Statement .rcData1D :=
  rfl

theorem EncodeFits.rcData1E : EncodeFits.Statement .rcData1E :=
  rfl

theorem EncodeFits.rcData1F : EncodeFits.Statement .rcData1F :=
  rfl

theorem EncodeFits.rcData20 : EncodeFits.Statement .rcData20 :=
  rfl

theorem EncodeFits.rcData21 : EncodeFits.Statement .rcData21 :=
  rfl

theorem EncodeFits.rcData22 : EncodeFits.Statement .rcData22 :=
  rfl

theorem EncodeFits.rcData23 : EncodeFits.Statement .rcData23 :=
  rfl

theorem EncodeFits.rcData24 : EncodeFits.Statement .rcData24 :=
  rfl

theorem EncodeFits.rcData25 : EncodeFits.Statement .rcData25 :=
  rfl

theorem EncodeFits.rcData26 : EncodeFits.Statement .rcData26 :=
  rfl

theorem EncodeFits.rcData27 : EncodeFits.Statement .rcData27 :=
  rfl

theorem EncodeFits.rcData28 : EncodeFits.Statement .rcData28 :=
  rfl

theorem EncodeFits.rcData29 : EncodeFits.Statement .rcData29 :=
  rfl

theorem EncodeFits.rcData2A : EncodeFits.Statement .rcData2A :=
  rfl

theorem EncodeFits.rcData2B : EncodeFits.Statement .rcData2B :=
  rfl

theorem EncodeFits.rcData2C : EncodeFits.Statement .rcData2C :=
  rfl

theorem EncodeFits.rcData2D : EncodeFits.Statement .rcData2D :=
  rfl

theorem EncodeFits.rcData2E : EncodeFits.Statement .rcData2E :=
  rfl

theorem EncodeFits.rcData2F : EncodeFits.Statement .rcData2F :=
  rfl

theorem EncodeFits.rcData30 : EncodeFits.Statement .rcData30 :=
  rfl

theorem EncodeFits.rcData31 : EncodeFits.Statement .rcData31 :=
  rfl

theorem EncodeFits.rcData32 : EncodeFits.Statement .rcData32 :=
  rfl

theorem EncodeFits.rcData33 : EncodeFits.Statement .rcData33 :=
  rfl

theorem EncodeFits.rcData34 : EncodeFits.Statement .rcData34 :=
  rfl

theorem EncodeFits.rcData35 : EncodeFits.Statement .rcData35 :=
  rfl

theorem EncodeFits.rcData36 : EncodeFits.Statement .rcData36 :=
  rfl

theorem EncodeFits.rcData37 : EncodeFits.Statement .rcData37 :=
  rfl

theorem EncodeFits.rcData38 : EncodeFits.Statement .rcData38 :=
  rfl

theorem EncodeFits.rcData39 : EncodeFits.Statement .rcData39 :=
  rfl

theorem EncodeFits.rcData3A : EncodeFits.Statement .rcData3A :=
  rfl

theorem EncodeFits.rcData3B : EncodeFits.Statement .rcData3B :=
  rfl

theorem EncodeFits.rcData3C : EncodeFits.Statement .rcData3C :=
  rfl

theorem EncodeFits.rcData3D : EncodeFits.Statement .rcData3D :=
  rfl

theorem EncodeFits.rcData3E : EncodeFits.Statement .rcData3E :=
  rfl

theorem EncodeFits.rcData3F : EncodeFits.Statement .rcData3F :=
  rfl

theorem EncodeFits.rcAck0F : EncodeFits.Statement .rcAck0F :=
  rfl

theorem EncodeFits.rcAckF0 : EncodeFits.Statement .rcAckF0 :=
  rfl

theorem EncodeFits.rcAckF8Remap : EncodeFits.Statement .rcAckF8Remap :=
  rfl

theorem EncodeFits.rcNack : EncodeFits.Statement .rcNack :=
  rfl

theorem EncodeFits.rcRsv1 : EncodeFits.Statement .rcRsv1 :=
  rfl

theorem EncodeFits.rcRsv2 : EncodeFits.Statement .rcRsv2 :=
  rfl

theorem EncodeFits.rcRsv3 : EncodeFits.Statement .rcRsv3 :=
  rfl

theorem EncodeFits.rcInvalid (b : Byte) : EncodeFits.Statement (.rcInvalid b) :=
  decide_eq_true b.isLt

end Sys2Proof.Laws
end

