-- ==== Sys2Proof/Tests/Slice0.lean ====
section
/-! SUPPORT. Tests: the well-formedness check refuses what it must, every row's word decodes, vectors of
95_test_vectors on single steps, and for every statement with hypotheses a witness that meets them. -/

namespace Sys2Proof.Machine.Tests

/-! ## Helpers -/

def decodesTo (row : Invocation × Instr) : Bool :=
  match decode row.1 with
  | .ok i => decide (i = row.2)
  | .error _ => false

/-- What an operation does, seen through `f`. -/
def after {α : Type} (i : Instr) (s : State) (f : State → α) : Option α :=
  match exec i s with
  | .next t => some (f t)
  | .fault _ => none
  | .refused _ => none

/-- What a step does, seen through `f`. -/
def stepped {α : Type} (s : State) (f : State → α) : Option α :=
  match step s with
  | .next t => some (f t)
  | .fault _ => none
  | .refused _ => none

/-- The frame store of a short frame. -/
def store (l : List Byte) : Vector Byte 9 :=
  storeBytes 0 l (Vector.replicate 9 0)

/-- RAILCOM mode, powered, at a READY slot, with frame 03 67 64 of loco 5 pending. -/
def running : State :=
  { State.reset with
    ctl := ⟨.railcom, true, false⟩
    out := { Out.reset with trackEn := true }
    buf := ⟨3, store [0x03, 0x67, 0x64], 5⟩
    stat := [(5, ⟨49, 0, 30, 0, false, 7, 7⟩)]
    locoAddr := [(5, 3)] }

/-- The same in CUTOUT at step `k`. -/
def inCutout (k : BitVec 5) : State :=
  { running with tx := { Tx.reset with txState := .cutout, txLen := 3, cutoutStep := k, txLocoIdx := 5 } }

/-- In DATA at the last bit of the last byte, second half. -/
def atLastBit : State :=
  { running with
    tx := { Tx.reset with
      txState := .data, txLen := 3, txBytes := store [0x03, 0x67, 0x64]
      byteIdx := 2, bitIdx := 7, halfSel := true } }

/-- The same frame in the second half of bit `bit` of byte `byte`. -/
def atBit (byte bit : BitVec 4) : State :=
  { atLastBit with tx := { atLastBit.tx with byteIdx := byte, bitIdx := bit } }

/-- `s` with EMIT_END_BIT = 1. -/
def withEndBit (s : State) : State :=
  { s with cfg := { s.cfg with emitEndBit := true } }

/-- `s` in another mode. -/
def inMode (m : Mode) (s : State) : State :=
  { s with ctl := { s.ctl with mode := m } }

/-- `running` satisfies the invariant. -/
theorem inv_running : Inv running where
  position := ⟨by decide, by decide, by decide, by decide, by decide⟩
  frame := ⟨by decide, by decide⟩
  longPulse := ⟨by decide, by decide⟩
  slotLen := by decide
  cutoutPowered := by decide
  receiverPowered := by decide
  statForm := by decide
  statEntries := by
    intro p hp
    obtain rfl : p = (5, ⟨49, 0, 30, 0, false, 7, 7⟩) := List.mem_singleton.mp hp
    exact ⟨by decide, ⟨by decide, by decide, by decide, by decide, by decide⟩⟩
  locoAddrForm := by decide
  locoAddrEntries := by decide
  prescaler := by decide
  fifo := by decide
  parameters := by decide
  portIdle := by decide

/-! ## Well-formedness (R99, R163) -/

theorem test_wellFormed_refuses_a_code_byte : (Instr.rcInvalid 0xAC).wellFormed = false := by decide
theorem test_wellFormed_refuses_the_remapped_byte : (Instr.rcInvalid 0xF8).wellFormed = false := by decide
theorem test_wellFormed_admits_an_invalid_byte : (Instr.rcInvalid 0x1F).wellFormed = true := by decide

/-! ## Decoding: words written out from the spec's encodings -/

/-- Format OP: the names and operand orders of R97 and of the rules it cites. -/
theorem test_decode_operations : ([
    (.op .tick [], .tick), (.op .ready [], .ready), (.op .preSlot [], .preSlot), (.op .dataSlot [], .dataSlot),
    (.op .hamdec [0xAC], .hamdec 0xAC), (.op .ch1dec [0xA3, 0xAC], .ch1dec [0xA3, 0xAC]),
    (.op .ch2dec [7, 0x0F], .ch2dec [0x0F] 7), (.op .assemble [3, 0x67], .assemble 3 [0x67]),
    (.op .submit [5, 3, 1, 0x67], .submit 5 3 [0x67]), (.op .setMode [1], .setMode 1), (.op .getMode [], .getMode),
    (.op .boosterOn [], .boosterOn), (.op .boosterOff [], .boosterOff),
    (.op .setCutoutInhibit [1], .setCutoutInhibit 1), (.op .getRc1Addr [], .getRc1Addr),
    (.op .getRc2Rate [200], .getRc2Rate 200), (.op .getRc2Age [7], .getRc2Age 7), (.op .getCv [], .getCv),
    (.op .clrCv [], .clrCv), (.op .getXpom [3], .getXpom 3), (.op .clrXpom [2], .clrXpom 2),
    (.op .getDyn [], .getDyn), (.op .clrDyn [], .clrDyn), (.op .getRc2Addr [], .getRc2Addr),
    (.op .clrRc2Addr [], .clrRc2Addr), (.op .getBufBusy [], .getBufBusy), (.op .getMs [], .getMs),
    (.op .rxbyte [0x9C], .rxbyte 0x9C)] : List (Invocation × Instr)).all decodesTo = true := by decide

/-- Format CUTOUT_STEP: the step numbers of R94. -/
theorem test_decode_cutout_steps : ([
    (.word .cutoutStep 0b00000, .coNop0), (.word .cutoutStep 0b00001, .coForcePos),
    (.word .cutoutStep 0b00010, .coAssert), (.word .cutoutStep 0b00011, .coIdle3),
    (.word .cutoutStep 0b00100, .coRxEnable), (.word .cutoutStep 0b00101, .coRxFlush),
    (.word .cutoutStep 0b00110, .coIdle6), (.word .cutoutStep 0b00111, .coIdle7),
    (.word .cutoutStep 0b01000, .coIdle8), (.word .cutoutStep 0b01001, .coReadCh1),
    (.word .cutoutStep 0b01010, .coIdle10), (.word .cutoutStep 0b01011, .coIdle11),
    (.word .cutoutStep 0b01100, .coIdle12), (.word .cutoutStep 0b01101, .coIdle13),
    (.word .cutoutStep 0b01110, .coIdle14), (.word .cutoutStep 0b01111, .coIdle15),
    (.word .cutoutStep 0b10000, .coIdle16), (.word .cutoutStep 0b10001, .coReadCh2),
    (.word .cutoutStep 0b10010, .coEnd)] : List (Invocation × Instr)).all decodesTo = true := by decide

/-- Formats TX_STATE and MODE: the codes of R92 and R93. -/
theorem test_decode_codes : ([
    (.word .txState 0b00, .txsReady), (.word .txState 0b01, .txsPreamble), (.word .txState 0b10, .txsData),
    (.word .txState 0b11, .txsCutout), (.word .mode 0b00, .modeNoRailcom), (.word .mode 0b01, .modeRailcom),
    (.word .mode 0b10, .modeProgramming), (.word .mode 0b11, .modeReserved3)] : List (Invocation × Instr)).all decodesTo = true := by decide

/-- Format DG12: identifier in bits 11:8 (R84, R86), data byte 0xA5. -/
theorem test_decode_datagrams12 : ([
    (.word .dg12Ch1 0x1A5, .rc1AdrHigh 0xA5), (.word .dg12Ch1 0x2A5, .rc1AdrLow 0xA5),
    (.word .dg12Ch2 0x0A5, .rc2Pom 0xA5), (.word .dg12Ch2 0x1A5, .rc2AdrHigh 0xA5),
    (.word .dg12Ch2 0x2A5, .rc2AdrLow 0xA5), (.word .dg12Ch2 0x7A5, .rc2DynNosub 0xA5),
    (.word .dg12Ch2 0x3A5, .rc2Unknown3 0xA5), (.word .dg12Ch2 0x4A5, .rc2Unknown4 0xA5),
    (.word .dg12Ch2 0x5A5, .rc2Unknown5 0xA5), (.word .dg12Ch2 0x6A5, .rc2Unknown6 0xA5),
    (.word .dg12Ch2 0xCA5, .rc2Unknown12 0xA5), (.word .dg12Ch2 0xDA5, .rc2Unknown13 0xA5),
    (.word .dg12Ch2 0xEA5, .rc2Unknown14 0xA5), (.word .dg12Ch2 0xFA5, .rc2Unknown15 0xA5)] : List (Invocation × Instr)).all decodesTo = true := by decide

/-- Format DG18 with value 0xA5 and sub-index 0x19 (R87); format DG36 with payload FE DC BA 98 (R88). -/
theorem test_decode_datagrams18_36 : ([
    (.word .dg18 0b0111_10100101_011001, .rc2Dyn 0xA5 0x19),
    (.word .dg36 0x8FEDCBA98, .rc2Xpom0 0xFE 0xDC 0xBA 0x98),
    (.word .dg36 0x9FEDCBA98, .rc2Xpom1 0xFE 0xDC 0xBA 0x98),
    (.word .dg36 0xAFEDCBA98, .rc2Xpom2 0xFE 0xDC 0xBA 0x98),
    (.word .dg36 0xBFEDCBA98, .rc2Xpom3 0xFE 0xDC 0xBA 0x98)] : List (Invocation × Instr)).all decodesTo = true := by decide

/-- Format RC_BYTE: the bytes of the data values 0x00..0x1F (R161). -/
theorem test_decode_data_bytes_low : ([
    (.word .rcByte 0xAC, .rcData00), (.word .rcByte 0xAA, .rcData01), (.word .rcByte 0xA9, .rcData02),
    (.word .rcByte 0xA5, .rcData03), (.word .rcByte 0xA3, .rcData04), (.word .rcByte 0xA6, .rcData05),
    (.word .rcByte 0x9C, .rcData06), (.word .rcByte 0x9A, .rcData07), (.word .rcByte 0x99, .rcData08),
    (.word .rcByte 0x95, .rcData09), (.word .rcByte 0x93, .rcData0A), (.word .rcByte 0x96, .rcData0B),
    (.word .rcByte 0x8E, .rcData0C), (.word .rcByte 0x8D, .rcData0D), (.word .rcByte 0x8B, .rcData0E),
    (.word .rcByte 0xB1, .rcData0F), (.word .rcByte 0xB2, .rcData10), (.word .rcByte 0xB4, .rcData11),
    (.word .rcByte 0xB8, .rcData12), (.word .rcByte 0x74, .rcData13), (.word .rcByte 0x72, .rcData14),
    (.word .rcByte 0x6C, .rcData15), (.word .rcByte 0x6A, .rcData16), (.word .rcByte 0x69, .rcData17),
    (.word .rcByte 0x65, .rcData18), (.word .rcByte 0x63, .rcData19), (.word .rcByte 0x66, .rcData1A),
    (.word .rcByte 0x5C, .rcData1B), (.word .rcByte 0x5A, .rcData1C), (.word .rcByte 0x59, .rcData1D),
    (.word .rcByte 0x55, .rcData1E), (.word .rcByte 0x53, .rcData1F)] : List (Invocation × Instr)).all decodesTo = true := by decide

/-- Format RC_BYTE: the bytes of the data values 0x20..0x3F (R161). -/
theorem test_decode_data_bytes_high : ([
    (.word .rcByte 0x56, .rcData20), (.word .rcByte 0x4E, .rcData21), (.word .rcByte 0x4D, .rcData22),
    (.word .rcByte 0x4B, .rcData23), (.word .rcByte 0x47, .rcData24), (.word .rcByte 0x71, .rcData25),
    (.word .rcByte 0xE8, .rcData26), (.word .rcByte 0xE4, .rcData27), (.word .rcByte 0xE2, .rcData28),
    (.word .rcByte 0xD1, .rcData29), (.word .rcByte 0xC9, .rcData2A), (.word .rcByte 0xC5, .rcData2B),
    (.word .rcByte 0xD8, .rcData2C), (.word .rcByte 0xD4, .rcData2D), (.word .rcByte 0xD2, .rcData2E),
    (.word .rcByte 0xCA, .rcData2F), (.word .rcByte 0xC6, .rcData30), (.word .rcByte 0xCC, .rcData31),
    (.word .rcByte 0x78, .rcData32), (.word .rcByte 0x17, .rcData33), (.word .rcByte 0x1B, .rcData34),
    (.word .rcByte 0x1D, .rcData35), (.word .rcByte 0x1E, .rcData36), (.word .rcByte 0x2E, .rcData37),
    (.word .rcByte 0x36, .rcData38), (.word .rcByte 0x3A, .rcData39), (.word .rcByte 0x27, .rcData3A),
    (.word .rcByte 0x2B, .rcData3B), (.word .rcByte 0x2D, .rcData3C), (.word .rcByte 0x35, .rcData3D),
    (.word .rcByte 0x39, .rcData3E), (.word .rcByte 0x33, .rcData3F)] : List (Invocation × Instr)).all decodesTo = true := by decide

/-- Format RC_BYTE: the sentinels and the remap (R162, R164), and four bytes outside the code (V33). -/
theorem test_decode_sentinels_and_invalid : ([
    (.word .rcByte 0x0F, .rcAck0F), (.word .rcByte 0xF0, .rcAckF0), (.word .rcByte 0xF8, .rcAckF8Remap),
    (.word .rcByte 0x3C, .rcNack), (.word .rcByte 0xE1, .rcRsv1), (.word .rcByte 0xC3, .rcRsv2),
    (.word .rcByte 0x87, .rcRsv3), (.word .rcByte 0x00, .rcInvalid 0x00), (.word .rcByte 0xFF, .rcInvalid 0xFF),
    (.word .rcByte 0x1F, .rcInvalid 0x1F), (.word .rcByte 0x0E, .rcInvalid 0x0E)] : List (Invocation × Instr)).all decodesTo = true := by decide

theorem test_decode_rejects_a_wrong_length_operand : decodeTableWord 5 19 = none ∧
    (match decode (.op .submit [5, 3, 2, 0x67]) with | .ok _ => false | .error e => decide (e = .badOperands .submit)) =
      true := by decide

/-! ## Tick and transmitter (V1, V3, V4, V15, V20, V21) -/

theorem test_tick1_of_V1 : after .tick State.reset
    (fun t => (t.tx.txState, t.tx.halfTick, t.tx.halfSel, t.tx.preCnt, t.out.trackPol, t.out.trackEn)) =
      some (.preamble, true, true, 12, true, false) := by decide

theorem test_ms_wraps_V3 : after .tick { State.reset with time := ⟨0xFFFFFFFF, 33⟩ } (·.time) = some ⟨0, 0⟩ := by decide

theorem test_ready_takes_the_frame_V4 : after .ready running
    (fun t => (t.tx.txLen, t.tx.txBytes, t.tx.txLocoIdx, t.buf.bufLen, t.out.flowContinue)) =
      some (3, store [0x03, 0x67, 0x64], 5, 0, true) := by decide

theorem test_ready_programming_filler : after .ready { State.reset with ctl := ⟨.programming, true, false⟩ }
    (fun t => (t.tx.txLen, t.tx.txBytes, t.tx.preCnt, t.out.trackEn)) = some (3, store [0, 0, 0], 12, true) := by decide

theorem test_preSlot_example_R116 :
    after .preSlot { State.reset with tx := { Tx.reset with txState := .preamble, preCnt := 1, halfSel := true } }
      (fun t => (t.out.trackPol, t.tx.longPulse, t.tx.preCnt, t.tx.txState)) = some (false, false, 0, .preamble) := by
  decide

theorem test_preSlot_ends_the_start_bit :
    after .txsPreamble { State.reset with tx := { Tx.reset with txState := .preamble, halfSel := true } }
      (fun t => (t.out.trackPol, t.tx.longPulse, t.tx.txState)) = some (false, true, .data) := by decide

theorem test_dataSlot_example_R117 :
    after .dataSlot { running with
        tx := { Tx.reset with txState := .data, txLen := 3, txBytes := store [0x03, 0x67, 0x64], bitIdx := 6, halfSel := true } }
      (fun t => (t.out.trackPol, t.tx.longPulse, t.tx.bitIdx)) = some (false, false, 7) := by decide

theorem test_endOfFrame_to_cutout_V15 : after .txsData atLastBit
    (fun t => (t.tx.txState, t.tx.cutoutStep, t.tx.preambleLen, t.tx.longPulse)) = some (.cutout, 0, 16, true) := by decide

theorem test_endOfFrame_inhibited_V15 : after .dataSlot { atLastBit with ctl := ⟨.railcom, true, true⟩ }
    (fun t => (t.tx.txState, t.tx.preambleLen)) = some (.ready, 12) := by decide

/-! ## Cutout (V20) -/

theorem test_cutout_is_held_by_a_long_half :
    after .tick { inCutout 0 with tx := { (inCutout 0).tx with longPulse := true } }
      (fun t => (t.tx.cutoutStep, t.tx.longPulse, t.tx.halfTick)) = some (0, false, true) := by decide

theorem test_cutout_step1_V20 : after .tick (inCutout 1) (fun t => (t.tx.cutoutStep, t.out.trackPol)) = some (2, true) := by
  decide

theorem test_cutout_step18_V20 : after .txsCutout { inCutout 18 with rxFifo := [1], out := ⟨true, true, true, false, false⟩ }
    (fun t => (t.tx.txState, t.tx.cutoutStep, t.out.cutoutAct, t.rxFifo)) = some (.ready, 0, false, []) := by decide

theorem test_read_ch1_drains : after .coReadCh1 { inCutout 9 with rxFifo := [0xA3, 0xAC] }
    (fun t => (t.rxFifo, t.rc1.adrHi, t.rc1.hiValid, t.tx.cutoutStep)) = some ([], 0x00, true, 10) := by decide

theorem test_read_ch2_unpowered_V23 :
    after .coReadCh2 { inCutout 17 with ctl := ⟨.railcom, false, false⟩, rxFifo := [0x0F] }
      (fun t => (t.rxFifo, t.stat, t.tx.cutoutStep)) = some ([0x0F], running.stat, 18) := by decide

/-! ## Code (V30 to V33) -/

theorem test_hamdec_vectors : [0xAC, 0xAA, 0x55, 0x33, 0x56, 0x0F, 0xF0, 0x3C, 0xE1, 0xC3, 0x87, 0xF8, 0x00, 0xFF, 0x0E].map hamDec =
    [0x00, 0x01, 0x1E, 0x3F, 0x20, 0x40, 0x40, 0x41, 0x42, 0x43, 0x44, 0x40, 0xFF, 0xFF, 0xFF] := by decide

theorem test_lut_of_the_remapped_byte : lut 0xF8 = 0xFF := by decide

/-! ## Channel 1 (V35 to V39e) -/

theorem test_ch1_high_V35 : after (.ch1dec [0x9C, 0xA3]) State.reset (fun t => (t.rc1.adrHi, t.rc1.hiValid, t.rc1.addrValid)) =
    some (0x84, true, false) := by decide

theorem test_ch1_combines_V37 :
    after (.ch1dec [0x96, 0xB8])
        { State.reset with time := ⟨4242, 0⟩, rc1 := { Rc1.reset with adrHi := 0x84, hiValid := true } }
      (fun t => (t.rc1.addr, t.rc1.addrValid, t.rc1.stamp, t.rc1.hiValid, t.rc1.loValid)) =
        some (1234, true, 4242, false, false) := by decide

theorem test_ch1_discards_V39 : after (.ch1dec [0x9C]) State.reset (fun t => (t.rc1, t.raised)) =
    some (Rc1.reset, [.badLength .ch1 1]) := by decide

theorem test_ch1_sentinel_V39c : after (.ch1dec [0x0F, 0xA3]) State.reset (fun t => (t.rc1, t.raised)) =
    some (Rc1.reset, [.badSymbol .ch1]) := by decide

/-! ## Channel 2 (V40 to V50), index 2, ms = 77 -/

def at77 : State := { State.reset with time := ⟨77, 0⟩ }

/-- Commands, responses and response time of index 2 after a read. -/
def counts (raw : List Byte) : Option (BitVec 6 × BitVec 6 × BitVec 32) :=
  after (.ch2dec raw 2) at77 (fun t => ((t.statAt 2).cmd0, (t.statAt 2).rsp0, (t.statAt 2).lastRspMs))

theorem test_ch2_counts_V40_V45b :
    [[], [0x0F], [0xF8], [0x3C], [0x87], [0xF0, 0xAC], [0x0F, 0x3C], [0x0F, 0x00], List.replicate 7 0xAC, [0xAC]].map counts =
      [some (1, 0, 0), some (1, 1, 77), some (1, 1, 77), some (1, 1, 77), some (1, 1, 77), some (1, 1, 77),
       some (1, 0, 77), some (1, 0, 0), some (1, 0, 0), some (1, 0, 0)] := by decide

theorem test_ch2_counts_V46_V49a :
    [[0xAA, 0x93, 0xAC], [0x5A, 0xA9], [0x56, 0xB8, 0x8D, 0xA6, 0x63, 0x00], [0x56, 0xB8, 0x8D, 0xA6, 0x63], [0x8E, 0xAC],
     [0x2D, 0xAC]].map counts =
      [some (1, 1, 77), some (1, 1, 77), some (1, 0, 0), some (1, 0, 0), some (1, 0, 77), some (1, 0, 77)] := by decide

theorem test_ch2_pom_V46 : after (.ch2dec [0xAA, 0x93] 2) at77 (fun t => (t.rc2.cv, t.rc2.cvValid)) = some (0x4A, true) := by
  decide

theorem test_ch2_dyn_V46d : after (.ch2dec [0x5A, 0xA9, 0xAC] 2) at77
    (fun t => (t.rc2.dynVal, t.rc2.dynSub, t.rc2.dynHasSub, t.rc2.dynValid)) = some (2, 0, true, true) := by decide

theorem test_ch2_address_V50 :
    after (.ch2dec [0x96, 0xB8] 2) { at77 with rc2 := { Rc2.reset with adrHi := 0x84, hiValid := true } }
      (fun t => (t.rc2.addr, t.rc2.addrValid, t.rc2.hiValid, t.rc2.loValid)) = some (1234, true, false, false) := by decide

theorem test_ch2_xpom_V47 : after (.ch2dec [0x56, 0xB8, 0x8D, 0xA6, 0x63, 0x36] 2) at77 (fun t => t.xpomAt 0) =
    some ⟨0x12, 0x34, 0x56, 0x78, true⟩ := by decide

theorem test_ch2_xpom_V47b : after (.ch2dec [0xCA, 0x33, 0xAC, 0xAC, 0xAC, 0xAA] 2) at77 (fun t => t.xpomAt 3) =
    some ⟨0xFF, 0x00, 0x00, 0x01, true⟩ := by decide

theorem test_ch2_xpom_blocked_V47a :
    after (.rc2Xpom0 0x12 0x34 0x56 0x78) (boosterOn at77) (fun t => t.xpomAt 0) = some ⟨0, 0, 0, 0, true⟩ := by decide

theorem test_ch2_without_a_slot_V49b : after (.ch2dec [0xAA, 0x93] 0xFF) at77 (fun t => (t.rc2.cv, t.stat)) =
    some (0x4A, []) := by decide

/-! ## Statistics (V51 to V53) -/

theorem test_window_rotates_V51 : after (.ch2dec [] 5) running
    (fun t => (t.statAt 5, rc2Rate 5 t)) = some (⟨50, 0, 30, 0, true, 0, 7⟩, 60) := by decide

theorem test_window_rotates_back_V53 :
    after (.ch2dec [] 5) { running with stat := [(5, ⟨50, 49, 30, 10, true, 7, 7⟩)] }
      (fun t => (t.statAt 5, rc2Rate 5 t)) = some (⟨0, 50, 0, 10, false, 0, 7⟩, 20) := by decide

/-! ## Packet buffer (V60 to V73) -/

theorem test_assemble_V60_V64 :
    [assemble 3 [0x67], assemble 127 [0x3F, 0x80], assemble 128 [0x3F, 0x80], assemble 1234 [0x3F, 0x80],
     assemble 0x27FF [0x80], assemble 0xFFFF [0x00, 0x00], assemble 0 [0x00], assemble 0xFFFF []] =
      [[0x03, 0x67, 0x64], [0x7F, 0x3F, 0x80, 0xC0], [0xC0, 0x80, 0x3F, 0x80, 0xFF], [0xC4, 0xD2, 0x3F, 0x80, 0xA9],
       [0xE7, 0xFF, 0x80, 0x98], [0x00, 0x00, 0x00], [0x00, 0x00, 0x00], [0x00]] := by decide

theorem test_submit_V73 : after (.submit 5 3 [0x67]) State.reset
    (fun t => (t.locoAddrAt 5, t.buf, t.stat)) = some (3, ⟨3, store [0x03, 0x67, 0x64], 5⟩, []) := by decide

theorem test_submit_address_change_V73 :
    after (.submit 5 4 [0x60]) { running with buf := Slot.reset } (fun t => (t.locoAddrAt 5, t.statAt 5)) =
      some (4, StatEntry.zero) := by decide

theorem test_submit_refused_V68 : after (.submit 5 0xFFFF []) State.reset (fun t => (t.buf, t.response)) =
    some (Slot.reset, some (.status .badFrameLength)) := by decide

theorem test_submit_refused_V70 : after (.submit 5 1234 [1, 2, 3, 4, 5, 6, 7]) State.reset (fun t => (t.buf, t.response)) =
    some (Slot.reset, some (.status .badFrameLength)) := by decide

theorem test_held_submit_waits_V74 :
    stepped { running with turns := [.fg], fgQueue := [.op .submit [2, 0xFFFF, 2, 0x81, 0xF8], .op .boosterOff []] }
      (fun t => (t.buf, t.fgQueue.length, t.turns)) = some (running.buf, 2, []) := by decide

/-! ## Control and accessors (V80 to V89) -/

theorem test_set_mode_V80 : after (.setMode 3) running (fun t => (t.ctl.mode, t.response)) =
    some (.railcom, some (.status .badMode)) := by decide

theorem test_booster_on_V81 : after .boosterOn State.reset
    (fun t => (t.ctl.boosterOn, t.out.trackEn, t.xpom.toList.map (·.valid))) =
      some (true, false, [true, true, true, true]) := by decide

theorem test_booster_off_V82 :
    after .boosterOff { running with out := ⟨true, true, true, true, false⟩, stat := [(3, ⟨7, 0, 5, 0, false, 900, 880⟩)] }
      (fun t => (t.ctl.boosterOn, t.out, t.statAt 3)) =
        some (false, ⟨true, false, false, false, false⟩, ⟨7, 0, 5, 0, false, 0, 0⟩) := by decide

/-- GET_RC1_ADDR with an address formed at `stamp`, asked at `ms`. -/
def rc1Answer (stamp ms : BitVec 32) : Option (Option Response) :=
  after .getRc1Addr { State.reset with time := ⟨ms, 0⟩, rc1 := { Rc1.reset with addr := 1234, addrValid := true, stamp := stamp } }
    (·.response)

theorem test_rc1_age_V84 : [rc1Answer 5000 5000, rc1Answer 5000 5999, rc1Answer 5000 6000, rc1Answer 0xFFFFFF00 0x10] =
    [some (some (.rc1Addr true 1234)), some (some (.rc1Addr true 1234)), some (some (.rc1Addr false 1234)),
     some (some (.rc1Addr true 1234))] := by decide

theorem test_rate_and_age_without_a_slot_V85 :
    (after (.getRc2Rate 200) running (·.response), after (.getRc2Age 200) running (·.response)) =
      (some (some (.rate 0)), some (some (.age 0xFFFFFFFF))) := by decide

theorem test_age_V86 : after (.getRc2Age 3)
    { State.reset with time := ⟨1000, 0⟩, stat := [(3, ⟨0, 0, 0, 0, false, 0, 880⟩)] } (·.response) =
      some (some (.age 120)) := by decide

theorem test_clr_cv_keeps_the_value_V87 :
    after .clrCv { State.reset with rc2 := { Rc2.reset with cv := 0x4A, cvValid := true } }
      (fun t => (t.rc2.cvValid, t.rc2.cv)) = some (false, 0x4A) := by decide

theorem test_busy_V89 : (after .getBufBusy State.reset (·.response), after .getBufBusy running (·.response)) =
    (some (some (.busy false)), some (some (.busy true))) := by decide

/-! ## The host's reading of table words, and the step -/

theorem test_table_word_runs : stepped (State.reset.withFetchWord 8 0x04) (fun t => (t.tx.cutoutStep, t.opPort)) =
    some (5, none) := by decide

theorem test_rx_turn : stepped { running with out := ⟨true, true, true, true, false⟩, turns := [.rx 0x9C] }
    (fun t => (t.rxFifo, t.turns)) = some ([0x9C], []) := by decide

/-! ## Witnesses: concrete states and operands that meet the hypotheses of the statements -/

theorem witness_ResetSatisfiesTheInvariant : Config.suggested.legal = true := by decide

theorem witness_ResetCycle : ({ running with turns := [.rst, .tick] } : State).opPort = none ∧
    ({ running with turns := [.rst, .tick] } : State).turns = .rst :: [.tick] := by decide

theorem witness_DecodeOfEncode : (Instr.rcInvalid 0).wellFormed = true ∧ (Instr.submit 5 3 [0x67]).wellFormed = true := by
  decide

theorem witness_EncodeOfDecode : decode (.word .dg12Ch2 0x04A) = .ok (.rc2Pom 0x4A) := by decide

theorem witness_CodesWithoutARow : (19 ≤ 19 ∧ 31 < 2 ^ 5) ∧ (0x0FF < 2 ^ 12 ∧ 0x0FF / 2 ^ 8 ≠ 1 ∧ 0x0FF / 2 ^ 8 ≠ 2) ∧
    (0x800 < 2 ^ 12 ∧ 8 ≤ 0x800 / 2 ^ 8 ∧ 0xBFF / 2 ^ 8 ≤ 11) ∧ (0x1BFFF < 2 ^ 18 ∧ 0x1BFFF / 2 ^ 14 ≠ 7) ∧
    (0x7FFFFFFFF < 2 ^ 36 ∧ 0x7FFFFFFFF / 2 ^ 32 < 8) ∧ (0xC00000000 < 2 ^ 36 ∧ 11 < 0xC00000000 / 2 ^ 32) ∧
    2 ^ Format.mode.width ≤ 4 := by decide

theorem witness_StepRunsTheDecodedOperation :
    (({ running with opPort := some (.op .getMs []) } : State).opPort = some (.op .getMs []) ∧
      decode (.op .getMs []) = .ok .getMs ∧ held .getMs running = false) ∧
    decodeTableWord 8 0x12 = some .coEnd ∧ running.opPort = none ∧ running.turns = [] ∧
    ({ running with turns := [.tick] } : State).turns = .tick :: [] ∧
    ({ running with turns := [.rx 1] } : State).turns = .rx 1 :: [] ∧
    (({ running with turns := [.fg], fgQueue := [.op .getMs []] } : State).fgQueue = .op .getMs [] :: [] ∧
      isForeground .getMs = true) ∧
    (decode (.op .rxbyte [1]) = .ok (.rxbyte 1) ∧ isForeground (.rxbyte 1) = false) ∧
    decode (.op .setMode [4]) = .error (.badOperands .setMode) := by decide

/-- An FG turn runs ASSEMBLE (R210, R294): the frame of the example in 44_packet_buffer R210 is answered. -/
theorem test_foreground_assembles :
    step { running with turns := [.fg], fgQueue := [.op .assemble [3, 0x67]] } =
      .next { running with response := some (.frame [0x03, 0x67, 0x64]) } := rfl

/-- A foreground that asks for a tick (R294), and one that gives SET_MODE an operand of more than 2 bits (R287, 93 U9),
change no register. -/
theorem test_foreground_cannot_tick :
    step { running with turns := [.fg], fgQueue := [.op .tick []] } = .next { running with response := some .notOffered } ∧
    step { running with turns := [.fg], fgQueue := [.op .setMode [4]] } =
      .next { running with response := some (.rejected (.badOperands .setMode)) } :=
  ⟨rfl, rfl⟩

theorem witness_HeldSubmit : 2 ≤ (assemble 0xFFFF [0xFF]).length ∧ (assemble 1234 [1, 2, 3, 4, 5, 6]).length ≤ 9 ∧
    running.buf.bufLen ≠ 0 ∧ running.opPort = none ∧
    ({ running with turns := [.fg], fgQueue := [encode (.submit 2 0xFFFF [0xFF])] } : State).fgQueue =
      encode (.submit 2 0xFFFF [0xFF]) :: [] ∧
    ({ running with opPort := some (encode (.submit 2 0xFFFF [0xFF])) } : State).opPort =
      some (encode (.submit 2 0xFFFF [0xFF])) := by decide

theorem witness_TickRunsTheDividedEngine : running.divides ∧ running.tx.halfTick = false ∧ running.tx.longPulse = false ∧
    decode (.word .txState running.tx.txState.code.toNat) = .ok .txsReady ∧
    ({ inCutout 0 with tx := { (inCutout 0).tx with longPulse := true } } : State).divides ∧
    (({ running with tx := { running.tx with halfTick := true } } : State).divides) := by
  refine ⟨Or.inl (by decide), by decide, by decide, by decide, Or.inr (by decide), Or.inl (by decide)⟩

theorem witness_TickInCutout : decode (.word .cutoutStep (inCutout 18).tx.cutoutStep.toNat) = .ok .coEnd ∧
    (inCutout 18).tx.txState = .cutout ∧ ¬ ((inCutout 18).tx.cutoutStep = 0 ∧ (inCutout 18).tx.longPulse = true) ∧
    decode (.word .cutoutStep (inCutout 0).tx.cutoutStep.toNat) = .ok .coNop0 ∧
    ¬ ((inCutout 0).tx.cutoutStep = 0 ∧ (inCutout 0).tx.longPulse = true) ∧ 19 ≤ (inCutout 19).tx.cutoutStep.toNat := by
  decide

/-- For MillisecondsCountTicks, FrameIsSentBitForBit, FullSlotIsReleasedInBoundedTicks and, with a tick as the step,
EveryStepKeepsTheInvariant. -/
theorem witness_running : Inv running ∧ running.onlyTicks ∧ running.atReadySlot ∧ running.buf.bufLen ≠ 0 ∧
    step running = .next (tick running) :=
  ⟨inv_running, ⟨rfl, rfl⟩, ⟨rfl, rfl, rfl⟩, by decide, rfl⟩

theorem witness_ReadyFetchesTheFrame : running.buf.bufLen ≠ 0 ∧ State.reset.buf.bufLen = 0 := by decide

theorem witness_PreambleSlot : (12 : BitVec 5) ≠ 0 ∧ Tx.reset.preCnt = 0 ∧ Tx.reset.halfSel = false ∧
    ({ Tx.reset with halfSel := true } : Tx).halfSel = true := by decide

/-- For DataSlotSendsABitAndMovesOn: the first half of a bit, a bit inside a byte, and the delimiter after byte 0. -/
theorem witness_DataSlot : atLastBit.tx.byteIdx.toNat ≤ 8 ∧ (Tx.reset.halfSel = false ∧ Tx.reset.bitIdx.toNat < 7) ∧
    (atBit 0 7).tx.bitIdx.toNat = 7 ∧ (atBit 0 7).tx.byteIdx.toNat + 1 ≠ (atBit 0 7).tx.txLen.toNat ∧
    (atBit 0 8).tx.bitIdx.toNat = 8 ∧ (atBit 0 8).tx.byteIdx.toNat + 1 ≠ (atBit 0 8).tx.txLen.toNat ∧
    (atBit 0 6).tx.bitIdx.toNat < 7 ∧ (atBit 0 6).tx.halfSel = true := by decide

/-- For the same statement: the last bit of the frame, without an end bit and with one, and every mode at it. -/
theorem witness_DataSlot_last : atLastBit.tx.bitIdx.toNat = 7 ∧ atLastBit.tx.halfSel = true ∧
    atLastBit.tx.byteIdx.toNat + 1 = atLastBit.tx.txLen.toNat ∧ atLastBit.cfg.emitEndBit = false ∧
    atLastBit.ctl.mode = .railcom ∧ atLastBit.ctl.cutoutInhibit = false ∧
    (withEndBit atLastBit).cfg.emitEndBit = true ∧ (withEndBit (atBit 2 8)).tx.bitIdx.toNat = 8 ∧
    (atBit 2 8).tx.byteIdx.toNat + 1 = (atBit 2 8).tx.txLen.toNat ∧ (atBit 2 8).tx.halfSel = true ∧
    (inMode .programming (atBit 2 8)).ctl.mode = .programming ∧ (inMode .noRailcom atLastBit).ctl.mode = .noRailcom := by
  decide

/-- The slot of the last data bit goes on to the end bit with EMIT_END_BIT = 1 (R117, D5), and the end bit to READY with
the programming preamble (R120). -/
theorem test_end_bit : (tick (withEndBit atLastBit)).tx.bitIdx = 8 ∧ (tick (withEndBit atLastBit)).tx.txState = .data ∧
    (tick (inMode .programming (withEndBit (atBit 2 8)))).tx.txState = .ready ∧
    (tick (inMode .programming (withEndBit (atBit 2 8)))).tx.preambleLen = 20 := by decide

theorem witness_FrameOnTheWire : atLastBit.opPort = none ∧ step atLastBit = .next (tick atLastBit) ∧
    atLastBit.turns.head? ≠ some .rst ∧ ¬ (atLastBit.tickNext ∧ atLastBit.atReadySlot) :=
  ⟨rfl, rfl, by decide, fun h => absurd h.2.1 (by decide)⟩

theorem witness_EveryTransfer : atLastBit.opPort = none ∧ step atLastBit = .next (tick atLastBit) ∧
    (tick atLastBit).tx.txState ≠ atLastBit.tx.txState ∧ (tick running).tx.txState ≠ running.tx.txState ∧
    (tick (inCutout 18)).tx.txState ≠ (inCutout 18).tx.txState ∧
    (rstTurn atLastBit).tx.txState ≠ atLastBit.tx.txState :=
  ⟨rfl, rfl, by decide, by decide, by decide, by decide⟩

theorem witness_SequencerIgnores : (boosterOff running).tx = running.tx ∧ (boosterOff running).ctl.mode = running.ctl.mode ∧
    (boosterOff running).ctl.cutoutInhibit = running.ctl.cutoutInhibit ∧ (boosterOff running).buf = running.buf ∧
    (boosterOff running).time = running.time ∧ (boosterOff running).cfg = running.cfg ∧
    exec .tick running = .next (tick running) ∧ exec .tick (boosterOff running) = .next (tick (boosterOff running)) :=
  ⟨rfl, rfl, rfl, rfl, rfl, rfl, rfl, rfl⟩

theorem witness_HeldSubmitRuns : Inv { ({ running with opPort := some (encode (.submit 2 0xFFFF [0xFF])) } : State) with opPort := none } ∧
    2 ≤ (assemble 0xFFFF [0xFF]).length ∧ (assemble 0xFFFF [0xFF]).length ≤ 9 :=
  ⟨inv_running, by decide, by decide⟩

theorem witness_CutoutSteps : (inCutout 2).ctl.boosterOn = true ∧ exec .coAssert (inCutout 2) = .next (coAssert (inCutout 2)) ∧
    exec .coRxEnable (inCutout 4) = .next (coRxEnable (inCutout 4)) ∧ (inCutout 4).rxFifo.length < (inCutout 4).cfg.rxDepth ∧
    State.reset.ctl.boosterOn = false :=
  ⟨rfl, rfl, rfl, by decide, rfl⟩

/-- For UnpoweredCutoutTickOnlyCounts, at the first and the last step. -/
theorem witness_UnpoweredCutout : ∀ k ∈ [(0 : BitVec 5), 18],
    (boosterOff (inCutout k)).tx.txState = .cutout ∧ (boosterOff (inCutout k)).ctl.boosterOn = false ∧
    (boosterOff (inCutout k)).tx.cutoutStep.toNat ≤ 18 ∧
    ¬ ((boosterOff (inCutout k)).tx.cutoutStep = 0 ∧ (boosterOff (inCutout k)).tx.longPulse = true) := by decide

theorem witness_CutoutTimeline : (inCutout 0).onlyTicks ∧ (inCutout 0).tx.txState = .cutout ∧ (inCutout 0).tx.cutoutStep = 0 ∧
    (inCutout 0).tx.longPulse = false ∧ (inCutout 0).ctl.boosterOn = true ∧ (inCutout 0).out.trackEn = true ∧
    (inCutout 0).out.cutoutAct = false ∧ (inCutout 0).out.rxEn = false :=
  ⟨⟨rfl, rfl⟩, rfl, rfl, rfl, rfl, rfl, rfl, rfl⟩

theorem witness_ReceivedByte : ({ Out.reset with rxEn := true } : Out).rxEn = true ∧ ([] : List Byte).length < 8 ∧
    Out.reset.rxEn = false ∧ 8 ≤ (List.replicate 8 (0 : Byte)).length := by decide

theorem witness_InvalidRow : (Instr.rcInvalid 0xFF).wellFormed = true := by decide

theorem witness_Channel1Decode : ([0x9C] : List Byte).length ≠ 2 ∧ (isDataByte 0x0F && isDataByte 0xA3) = false ∧
    (isDataByte 0x9C && isDataByte 0xA3) = true ∧
    decode (.word .dg12Ch1 (datagram12 (hamDec 0x9C) (hamDec 0xA3))) = .ok (.rc1AdrHigh 0x84) ∧
    (isDataByte 0xAA && isDataByte 0x93) = true ∧ datagram12 (hamDec 0xAA) (hamDec 0x93) / 2 ^ 8 ≠ 1 ∧
    datagram12 (hamDec 0xAA) (hamDec 0x93) / 2 ^ 8 ≠ 2 := by decide

theorem witness_XpomReply : (running.xpom[(0 : Fin 4)]).valid = false ∧ ((boosterOn running).xpom[(3 : Fin 4)]).valid = true := by
  decide

/-- For Channel2DecodeRunsItsDatagram: POM, DYN without and with a third symbol, and XPOM. -/
theorem witness_Channel2Datagrams : ([0xAA, 0x93] : List Byte).all isDataByte = true ∧
    datagram12 (hamDec 0xAA) (hamDec 0x93) / 2 ^ 8 ≠ 7 ∧
    decode (.word .dg12Ch2 (datagram12 (hamDec 0xAA) (hamDec 0x93))) = .ok (.rc2Pom 0x4A) ∧
    decode (.word .dg12Ch2 (datagram12 (hamDec 0x5A) (hamDec 0xA9))) = .ok (.rc2DynNosub 2) ∧
    ([0x5A, 0xA9, 0xAC] : List Byte).all isDataByte = true ∧
    decode (.word .dg18 (datagram18 (hamDec 0x5A) (hamDec 0xA9) (hamDec 0xAC))) = .ok (.rc2Dyn 2 0) ∧
    ([0x56, 0xB8, 0x8D, 0xA6, 0x63, 0x36] : List Byte).all isDataByte = true ∧
    decode (.word .dg36 (datagram36 (hamDec 0x56) (hamDec 0xB8) (hamDec 0x8D) (hamDec 0xA6) (hamDec 0x63) (hamDec 0x36))) =
      .ok (.rc2Xpom0 0x12 0x34 0x56 0x78) := by decide

theorem witness_Channel2Others : (List.replicate 7 (0xAC : Byte)).length = 7 ∧ 0xFF ∈ ([0x0F, 0x00] : List Byte).map hamDec ∧
    (0xFF ∉ ([0xF0, 0xAC] : List Byte).map hamDec ∧ (([0xF0, 0xAC] : List Byte).map hamDec).countP notData = 1) ∧
    (0xFF ∉ ([0x0F, 0x3C] : List Byte).map hamDec ∧ 2 ≤ (([0x0F, 0x3C] : List Byte).map hamDec).countP notData) ∧
    (0xFF ∉ ([0xAC] : List Byte).map hamDec ∧ (([0xAC] : List Byte).map hamDec).countP notData = 0) ∧
    (([0x56, 0xB8] : List Byte).map hamDec = 0x20 :: 0x12 :: [] ∧ (([0x56, 0xB8] : List Byte).map hamDec).countP notData = 0 ∧
      8 ≤ datagram12 0x20 0x12 / 2 ^ 8 ∧ datagram12 0x20 0x12 / 2 ^ 8 ≤ 11) := by decide

/-- For the statistics, BOOSTER_OFF, SUBMIT and ownership: canonical tables with entries on both sides of every case. -/
theorem witness_Tables : Memory.wf StatEntry.zero running.stat ∧ Memory.wf broadcast running.locoAddr ∧
    (∀ p ∈ running.stat, p.1 < running.cfg.nLoco) ∧ (5 : BitVec 8).toNat < running.cfg.nLoco ∧
    running.cfg.nLoco ≤ (200 : BitVec 8).toNat ∧ (running.statAt 5).active = false ∧ (running.statAt 5).cmd0.toNat < 50 ∧
    ((statCommand 5 running).statAt 5).cmd0.toNat = 50 ∧ ((statRotate 5 (statCommand 5 running)).statAt 5).active = true ∧
    (StatEntry.mk 50 50 0 0 true 0 0).cmd1.toNat = 50 ∧ (4 : BitVec 8) ≠ 5 := by decide

theorem witness_ResponseRate : Inv running ∧ (2 : BitVec 8).toNat < running.cfg.nLoco ∧
    (running.statAt 2).cmdCnt (running.statAt 2).active = 0 ∧ running.statAt 2 = StatEntry.zero ∧
    (List.replicate 50 ([0x0F] : List Byte)).length = 50 ∧ (List.replicate 49 ([0x0F] : List Byte)).length < 50 :=
  ⟨inv_running, by decide, by decide, by decide, by decide, by decide⟩

theorem witness_Checksum : exec .dataSlot atLastBit = .next (dataSlot atLastBit) ∧
    exec .preSlot running = .next (preSlot running) ∧ exec .ready running = .next (ready running) ∧ running.buf.bufLen ≠ 0 :=
  ⟨rfl, rfl, rfl, by decide⟩

theorem witness_SubmitRefused : (assemble 0xFFFF []).length < 2 ∧ 9 < (assemble 1234 [1, 2, 3, 4, 5, 6, 7]).length := by decide

theorem witness_SubmitFills : 2 ≤ (assemble 0xFFFF [0xFF]).length ∧ (assemble 1234 [1, 2, 3, 4, 5, 6]).length = 9 ∧
    ({ running with buf := Slot.reset } : State).buf.bufLen = 0 := by decide

theorem witness_Accessors : State.reset.ctl.mode = .noRailcom ∧ running.ctl.mode = .railcom ∧
    ({ Ctl.reset with mode := .programming } : Ctl).mode = .programming := by decide

theorem witness_ReadsArePure : exec .getMs running = .next (respond (.ms 0) running) ∧
    exec (.getXpom 1) running = .next (respond (.xpom false 0 0 0 0) running) ∧
    exec (.hamdec 0xAC) running = .next (respond (.symbol 0) running) ∧
    exec (.getRc2Rate 5) running = .next (respond (.rate (rc2Rate 5 running)) running) :=
  ⟨rfl, rfl, rfl, rfl⟩

theorem witness_Ownership : isForeground .boosterOff = true ∧
    exec .boosterOff running = .next (respond .done (boosterOff running)) ∧
    exec .tick (boosterOff running) = .next (tick (boosterOff running)) ∧ (boosterOff running).ctl.boosterOn = false ∧
    ((boosterOn running).xpomAt 2).valid = true :=
  ⟨rfl, rfl, rfl, rfl, by decide⟩

end Sys2Proof.Machine.Tests
end

section
/-! PROOFS. Which operations only read (20_memory R79): the accessors and the table lookup are pure reads, RxReadAll drains
the FIFO and READY releases the packet slot. -/

namespace Sys2Proof.Machine

/-! ## Pure reads

An operation is a pure read when all it does is put at the foreground port an answer computed from the state, and that
answer does not depend on what the port held before (log 6). Purity and repeatability follow from these two facts alone,
so each accessor only has to name its answer. -/

/-- `i` only reads: it answers `answer` and does nothing else, and the port's own contents do not enter the answer. -/
structure PureRead (i : Instr) (answer : State → Response) : Prop where
  exec_eq : ∀ s, exec i s = .next (respond (answer s) s)
  answer_respond : ∀ r s, answer (respond r s) = answer s

namespace PureRead

variable {i : Instr} {answer : State → Response} {s t : State}

theorem eq_respond (h : PureRead i answer) (hexec : exec i s = .next t) : t = respond (answer s) s := by
  rw [h.exec_eq] at hexec
  exact (Host.Outcome.next.inj hexec).symm

theorem changes_only_response (h : PureRead i answer) (hexec : exec i s = .next t) :
    t = { s with response := t.response } := by
  obtain rfl := h.eq_respond hexec
  rfl

theorem exec_again (h : PureRead i answer) (hexec : exec i s = .next t) : exec i t = .next t := by
  obtain rfl := h.eq_respond hexec
  calc exec i (respond (answer s) s)
      = .next (respond (answer (respond (answer s) s)) (respond (answer s) s)) := h.exec_eq _
    _ = .next (respond (answer s) (respond (answer s) s)) := by rw [h.answer_respond]
    _ = .next (respond (answer s) s) := by simp only [respond_eq, State.setResponse_twice]

/-! ### The accessors of 45_control_and_accessors (R231, R235 to R247) and the table lookup (R160) -/

theorem getMode : PureRead .getMode (fun s => .mode s.ctl.mode.code) :=
  ⟨fun _ => rfl, fun _ _ => rfl⟩

theorem getRc1Addr : PureRead .getRc1Addr (fun s => .rc1Addr s.rc1Fresh s.rc1.addr) :=
  ⟨fun _ => rfl, fun _ _ => rfl⟩

theorem getRc2Rate (idx : BitVec 8) : PureRead (.getRc2Rate idx) (fun s => .rate (rc2Rate idx s)) :=
  ⟨fun _ => rfl, fun _ _ => rfl⟩

theorem getRc2Age (idx : BitVec 8) : PureRead (.getRc2Age idx) (fun s => .age (rc2Age idx s)) :=
  ⟨fun _ => rfl, fun _ _ => rfl⟩

theorem getCv : PureRead .getCv (fun s => .cv s.rc2.cvValid s.rc2.cv) :=
  ⟨fun _ => rfl, fun _ _ => rfl⟩

theorem getXpom (q : BitVec 2) : PureRead (.getXpom q)
    (fun s => .xpom (s.xpomAt q).valid (s.xpomAt q).b0 (s.xpomAt q).b1 (s.xpomAt q).b2 (s.xpomAt q).b3) :=
  ⟨fun _ => rfl, fun _ _ => rfl⟩

theorem getDyn : PureRead .getDyn (fun s => .dyn s.rc2.dynValid s.rc2.dynVal s.rc2.dynHasSub s.rc2.dynSub) :=
  ⟨fun _ => rfl, fun _ _ => rfl⟩

theorem getRc2Addr : PureRead .getRc2Addr (fun s => .rc2Addr s.rc2.addrValid s.rc2.addr) :=
  ⟨fun _ => rfl, fun _ _ => rfl⟩

theorem getBufBusy : PureRead .getBufBusy (fun s => .busy s.busy) :=
  ⟨fun _ => rfl, fun _ _ => rfl⟩

theorem getMs : PureRead .getMs (fun s => .ms s.time.ms) :=
  ⟨fun _ => rfl, fun _ _ => rfl⟩

theorem hamdec (b : Byte) : PureRead (.hamdec b) (fun _ => .symbol (hamDec b)) :=
  ⟨fun _ => rfl, fun _ _ => rfl⟩

end PureRead

theorem exists_pureRead_of_accessor {i : Instr}
    (hi : i ∈ [Instr.getMode, .getRc1Addr, .getCv, .getDyn, .getRc2Addr, .getBufBusy, .getMs] ∨
      (∃ idx, i = .getRc2Rate idx ∨ i = .getRc2Age idx) ∨ (∃ q, i = .getXpom q) ∨ (∃ b, i = .hamdec b)) :
    ∃ answer, PureRead i answer := by
  obtain hplain | ⟨idx, rfl | rfl⟩ | ⟨q, rfl⟩ | ⟨b, rfl⟩ := hi
  · simp only [List.mem_cons, List.not_mem_nil, or_false] at hplain
    obtain rfl | rfl | rfl | rfl | rfl | rfl | rfl := hplain
    · exact ⟨_, .getMode⟩
    · exact ⟨_, .getRc1Addr⟩
    · exact ⟨_, .getCv⟩
    · exact ⟨_, .getDyn⟩
    · exact ⟨_, .getRc2Addr⟩
    · exact ⟨_, .getBufBusy⟩
    · exact ⟨_, .getMs⟩
  · exact ⟨_, .getRc2Rate idx⟩
  · exact ⟨_, .getRc2Age idx⟩
  · exact ⟨_, .getXpom q⟩
  · exact ⟨_, .hamdec b⟩

/-! ## The receive FIFO (20_memory R69) -/

theorem rxReadAll_eq (s : State) : rxReadAll s = s.rxFifo := rfl

theorem rxDrain_eq (s : State) : rxDrain s = s.setRxFifo [] := rfl

@[simp] theorem rxReadAll_rxDrain (s : State) : rxReadAll (rxDrain s) = [] := by
  rw [rxReadAll_eq, rxDrain_eq, State.setRxFifo_rxFifo]

/-! ## What READY does to the packet slot (40_tick R114) -/

theorem busy_eq_true_iff (s : State) : s.busy = true ↔ s.buf.bufLen ≠ 0 := by
  simp [State.busy]

@[simp] theorem enableTrack_buf (s : State) : (enableTrack s).buf = s.buf := by
  unfold enableTrack
  split
  · rw [State.setOut_buf]
  · rfl

@[simp] theorem takeFrame_buf (s : State) : (takeFrame s).buf = { s.buf with bufLen := 0 } := rfl

@[simp] theorem makeFiller_buf (s : State) : (makeFiller s).buf = s.buf := rfl

/-- READY writes the slot only by its release, which leaves an empty slot as it is. -/
@[simp] theorem ready_buf (s : State) : (ready s).buf = { s.buf with bufLen := 0 } := by
  have hbusy : (enableTrack s).busy = true ↔ s.buf.bufLen ≠ 0 := by rw [busy_eq_true_iff, enableTrack_buf]
  simp only [ready, State.setTx_buf]
  split
  case isTrue => rw [takeFrame_buf, enableTrack_buf]
  case isFalse hidle =>
    have hempty : s.buf.bufLen = 0 := not_not.mp (mt hbusy.mpr hidle)
    rw [makeFiller_buf, enableTrack_buf, ← hempty]

theorem exec_ready (s : State) : exec .ready s = .next (ready s) := rfl

/-! ## The statement -/

/-- Settles O56: the accessors and the table lookup are pure reads, RxReadAll is its two equations, and the slot after
READY is `ready_buf`. -/
theorem readsArePureExceptReadAll : Obligations.ReadsArePureExceptReadAll := by
  unfold Obligations.ReadsArePureExceptReadAll
  refine ⟨fun i s t hi hexec => ?reads, fun s => ?fifo, fun s t _ hexec => ?slot⟩
  case reads =>
    obtain ⟨answer, hread⟩ := exists_pureRead_of_accessor hi
    exact ⟨hread.changes_only_response hexec, hread.exec_again hexec⟩
  case fifo => exact ⟨rxReadAll_eq s, rxDrain_eq s, rxReadAll_rxDrain s⟩
  case slot =>
    rw [exec_ready] at hexec
    obtain rfl := Host.Outcome.next.inj hexec
    exact ready_buf s

end Sys2Proof.Machine
end

section
/-! PROOFS. HAMDEC is one table lookup (42_hamming_lut R160): the operation is the pure read of `hamDec`, and `hamDec` is
the lookup of the corrected byte. -/

namespace Sys2Proof.Machine

/-- R160: the 0xF8 correction comes before the lookup. -/
theorem hamDec_eq (b : Byte) : hamDec b = lut (if b = 0xF8 then 0xF0 else b) := rfl

/-! ## The statement -/

/-- Settles O30: HAMDEC is the pure read of `hamDec` (`PureRead.hamdec`), and `hamDec` is the corrected lookup. -/
theorem hamdecLooksTheByteUp : Obligations.HamdecLooksTheByteUp := by
  unfold Obligations.HamdecLooksTheByteUp
  intro b s
  calc exec (.hamdec b) s
      = .next (respond (.symbol (hamDec b)) s) := (PureRead.hamdec b).exec_eq s
    _ = .next (respond (.symbol (lut (if b = 0xF8 then 0xF0 else b))) s) := by rw [hamDec_eq]
    _ = .next { s with response := some (.symbol (lut (if b = 0xF8 then 0xF0 else b))) } := by
      rw [respond_eq, State.setResponse]

end Sys2Proof.Machine
end

section
/-! PROOFS. The checksum of a frame (44_packet_buffer R211): ASSEMBLE ends the frame with the XOR of what stands before
it, and no operation of the transmitter rewrites a byte of the frame on the wire. -/

namespace Sys2Proof.Machine

/-! ## XOR of bytes (30_encoding R91) -/

/-- The model folds from the left; XOR is associative and commutative, so the side does not matter. -/
theorem xorBytes_eq_foldr (l : List Byte) : xorBytes l = l.foldr (· ^^^ ·) 0 :=
  List.foldl_eq_foldr

theorem xorBytes_concat (l : List Byte) (b : Byte) : xorBytes (l ++ [b]) = xorBytes l ^^^ b :=
  List.foldl_concat ..

/-- A list closed by its own checksum has XOR 0. -/
theorem xorBytes_concat_xorBytes (l : List Byte) : xorBytes (l ++ [xorBytes l]) = 0 :=
  (xorBytes_concat l _).trans BitVec.xor_self

/-! ## The frame of ASSEMBLE (R210) -/

theorem getLast?_assemble (a : BitVec 16) (payload : List Byte) :
    (assemble a payload).getLast? = some (xorBytes (addrBytes a ++ payload)) :=
  List.getLast?_concat

theorem dropLast_assemble (a : BitVec 16) (payload : List Byte) :
    (assemble a payload).dropLast = addrBytes a ++ payload :=
  List.dropLast_concat

theorem xorBytes_assemble (a : BitVec 16) (payload : List Byte) : xorBytes (assemble a payload) = 0 :=
  xorBytes_concat_xorBytes (addrBytes a ++ payload)

/-! ## What the slots do to the frame on the wire (40_tick R115 to R120) -/

@[simp] theorem startHalf_txBytes (v : Bool) (s : State) : (startHalf v s).tx.txBytes = s.tx.txBytes := rfl

@[simp] theorem endOfFrame_txBytes (s : State) : (endOfFrame s).tx.txBytes = s.tx.txBytes := by
  obtain ⟨-, -, hcutout⟩ | ⟨-, hprogramming⟩ | ⟨-, hplain⟩ := endOfFrame_cases s
  · rw [hcutout, State.setTx_tx]
  · rw [hprogramming, State.setTx_tx]
  · rw [hplain, State.setTx_tx]

@[simp] theorem nextBit_txBytes (s : State) : (nextBit s).tx.txBytes = s.tx.txBytes := by
  simp only [nextBit]
  split
  case isTrue => rw [State.setTx_tx]
  case isFalse =>
    split
    case isTrue => split <;> simp
    case isFalse => split <;> simp

@[simp] theorem dataSlot_txBytes (s : State) : (dataSlot s).tx.txBytes = s.tx.txBytes := by
  unfold dataSlot
  cases s.tx.halfSel with
  | false => exact startHalf_txBytes _ s
  | true => exact (nextBit_txBytes _).trans (startHalf_txBytes _ s)

@[simp] theorem preSlot_txBytes (s : State) : (preSlot s).tx.txBytes = s.tx.txBytes := by
  unfold preSlot
  split
  case isTrue => cases s.tx.halfSel <;> simp
  case isFalse => cases s.tx.halfSel <;> simp

theorem exec_preSlot (s : State) : exec .preSlot s = .next (preSlot s) := rfl

theorem exec_dataSlot (s : State) : exec .dataSlot s = .next (dataSlot s) := rfl

/-! ## What READY puts on the wire (R114) -/

/-- READY takes a pending frame with its bytes as they are. -/
theorem ready_txBytes_of_pending {s : State} (hpending : s.buf.bufLen ≠ 0) :
    (ready s).tx.txBytes = s.buf.bufBytes := by
  have hbusy : (enableTrack s).busy = true := (busy_eq_true_iff _).mpr (by rwa [enableTrack_buf])
  have htaken : (takeFrame (enableTrack s)).tx.txBytes = (enableTrack s).buf.bufBytes := rfl
  simp only [ready, hbusy, if_true, State.setTx_tx, htaken, enableTrack_buf]

/-! ## The statement -/

/-- Settles O46: the frame's clauses are `assemble`'s equations with XOR folded from the right, and the transmitter's
are the `txBytes` lemmas of its three operations. -/
theorem checksumRoundTrips : Obligations.ChecksumRoundTrips := by
  unfold Obligations.ChecksumRoundTrips
  refine ⟨fun a payload => ?frame, fun s t hexec => ?dataSlot, fun s t hexec => ?preSlot, fun s t hpending hexec => ?ready⟩
  case frame =>
    simp only [← xorBytes_eq_foldr]
    exact ⟨getLast?_assemble a payload, dropLast_assemble a payload, xorBytes_assemble a payload⟩
  case dataSlot =>
    rw [exec_dataSlot] at hexec
    obtain rfl := Host.Outcome.next.inj hexec
    exact dataSlot_txBytes s
  case preSlot =>
    rw [exec_preSlot] at hexec
    obtain rfl := Host.Outcome.next.inj hexec
    exact preSlot_txBytes s
  case ready =>
    rw [exec_ready] at hexec
    obtain rfl := Host.Outcome.next.inj hexec
    exact ready_txBytes_of_pending hpending

end Sys2Proof.Machine
end

section
/-! PROOFS. The accessors and the clears of the foreground (45_control_and_accessors R231, R238 to R247): an accessor is
the pure read of its registers, a clear writes its one flag, and a cleared XPOM slot takes the next reply of its
sequence. -/

namespace Sys2Proof.Machine

/-! ## The accessors (R231, R238, R240, R242, R244, R246, R247) -/

/-- A pure read's next state, field by field: only the port's answer is new. -/
theorem PureRead.exec_eq_with_response {i : Instr} {answer : State → Response} (h : PureRead i answer) (s : State) :
    exec i s = .next { s with response := some (answer s) } := by
  rw [h.exec_eq, respond_eq, State.setResponse]

/-- The codes of R93, as a table. -/
theorem Mode.code_eq_of_mem {row : Mode × BitVec 2}
    (hrow : row ∈ [(Mode.noRailcom, (0 : BitVec 2)), (.railcom, 1), (.programming, 2)]) : row.1.code = row.2 := by
  simp only [List.mem_cons, List.not_mem_nil, or_false] at hrow
  obtain rfl | rfl | rfl := hrow
  · rfl
  · rfl
  · rfl

theorem busy_eq_decide (s : State) : s.busy = decide (s.buf.bufLen ≠ 0) := by
  rw [Bool.eq_iff_iff, busy_eq_true_iff, decide_eq_true_iff]

/-- Settles O52: every accessor is the pure read of its registers (`PureRead`); only the mode's code and the slot's busy
flag are computed. -/
theorem accessorsAnswerTheirRegisters : Obligations.AccessorsAnswerTheirRegisters := by
  unfold Obligations.AccessorsAnswerTheirRegisters
  refine fun s => ⟨fun row hrow hmode => ?mode, PureRead.getCv.exec_eq_with_response s,
    fun q => (PureRead.getXpom q).exec_eq_with_response s, PureRead.getDyn.exec_eq_with_response s,
    PureRead.getRc2Addr.exec_eq_with_response s, ?busy, PureRead.getMs.exec_eq_with_response s⟩
  case mode => rw [PureRead.getMode.exec_eq_with_response, hmode, Mode.code_eq_of_mem hrow]
  case busy => rw [PureRead.getBufBusy.exec_eq_with_response, busy_eq_decide]

/-! ## The clears (R239, R241, R243, R245) -/

theorem exec_clrCv (s : State) :
    exec .clrCv s = .next (respond .done (s.setRc2 { s.rc2 with cvValid := false })) := rfl

theorem exec_clrXpom (q : BitVec 2) (s : State) :
    exec (.clrXpom q) s = .next (respond .done (s.setXpomAt q { s.xpomAt q with valid := false })) := rfl

theorem exec_clrDyn (s : State) :
    exec .clrDyn s = .next (respond .done (s.setRc2 { s.rc2 with dynValid := false })) := rfl

theorem exec_clrRc2Addr (s : State) :
    exec .clrRc2Addr s = .next (respond .done (s.setRc2 { s.rc2 with addrValid := false })) := rfl

/-! ## The XPOM table under an answer, a response count and a reply -/

@[simp] theorem xpomAt_respond (r : Response) (s : State) (q : BitVec 2) : (respond r s).xpomAt q = s.xpomAt q := rfl

@[simp] theorem xpomAt_statResponse (idx : BitVec 8) (s : State) (q : BitVec 2) :
    (statResponse idx s).xpomAt q = s.xpomAt q := by
  rw [statResponse, updStat_eq, State.xpomAt, State.setStat_xpom, State.xpomAt]

theorem xpomAt_setXpomAt_same (s : State) (q : BitVec 2) (x : XpomSlot) : (s.setXpomAt q x).xpomAt q = x := by
  rw [xpomAt_setXpomAt, if_pos rfl]

section Reply
variable {q : BitVec 2} {b0 b1 b2 b3 : Byte}

/-- A free slot stores the reply of its sequence and sets its flag (R185), whatever index the response counts for. -/
theorem xpomAt_rc2Xpom_of_free {s : State} (hfree : (s.xpomAt q).valid = false) (idx : BitVec 8) :
    (rc2Xpom q b0 b1 b2 b3 idx s).xpomAt q = ⟨b0, b1, b2, b3, true⟩ := by
  have hstored : rc2Xpom q b0 b1 b2 b3 idx s = statResponse idx (s.setXpomAt q ⟨b0, b1, b2, b3, true⟩) := by
    rw [rc2Xpom, hfree, if_neg Bool.false_ne_true]
  rw [hstored, xpomAt_statResponse, xpomAt_setXpomAt_same]

/-- CLR_XPOM re-opens its slot (R241): the row `i` of sequence `q` then stores its reply there. -/
theorem clrXpom_reopens_slot {i : Instr}
    (hrow : ∀ t, exec i t = .next (rc2Xpom q b0 b1 b2 b3 t.tx.txLocoIdx t)) (s : State) :
    ∃ t u, exec (.clrXpom q) s = .next t ∧ exec i t = .next u ∧ u.xpomAt q = ⟨b0, b1, b2, b3, true⟩ := by
  refine ⟨_, _, exec_clrXpom q s, hrow _, xpomAt_rc2Xpom_of_free ?free _⟩
  rw [xpomAt_respond, xpomAt_setXpomAt_same]

end Reply

section Rows
variable (b0 b1 b2 b3 : Byte) (s : State)

theorem exec_rc2Xpom0 : exec (.rc2Xpom0 b0 b1 b2 b3) s = .next (rc2Xpom 0 b0 b1 b2 b3 s.tx.txLocoIdx s) := rfl

theorem exec_rc2Xpom1 : exec (.rc2Xpom1 b0 b1 b2 b3) s = .next (rc2Xpom 1 b0 b1 b2 b3 s.tx.txLocoIdx s) := rfl

theorem exec_rc2Xpom2 : exec (.rc2Xpom2 b0 b1 b2 b3) s = .next (rc2Xpom 2 b0 b1 b2 b3 s.tx.txLocoIdx s) := rfl

theorem exec_rc2Xpom3 : exec (.rc2Xpom3 b0 b1 b2 b3) s = .next (rc2Xpom 3 b0 b1 b2 b3 s.tx.txLocoIdx s) := rfl

end Rows

/-- Settles O55: each clear is its `exec` equation with the updates written out, and each row of a sequence finds the
slot `clrXpom_reopens_slot` leaves free. -/
theorem clearsClearTheirFlagOnly : Obligations.ClearsClearTheirFlagOnly := by
  unfold Obligations.ClearsClearTheirFlagOnly
  refine fun s => ⟨?cv, fun q => ?xpom, fun b0 b1 b2 b3 row hrow => ?reply, ?dyn, ?rc2Addr⟩
  case cv => rw [exec_clrCv, respond_eq, State.setResponse, State.setRc2]
  case xpom => rw [exec_clrXpom, respond_eq, State.setResponse, State.setXpomAt, State.setXpom]
  case reply =>
    simp only [List.mem_cons, List.not_mem_nil, or_false] at hrow
    obtain rfl | rfl | rfl | rfl := hrow
    · exact clrXpom_reopens_slot (exec_rc2Xpom0 b0 b1 b2 b3) s
    · exact clrXpom_reopens_slot (exec_rc2Xpom1 b0 b1 b2 b3) s
    · exact clrXpom_reopens_slot (exec_rc2Xpom2 b0 b1 b2 b3) s
    · exact clrXpom_reopens_slot (exec_rc2Xpom3 b0 b1 b2 b3) s
  case dyn => rw [exec_clrDyn, respond_eq, State.setResponse, State.setRc2]
  case rc2Addr => rw [exec_clrRc2Addr, respond_eq, State.setResponse, State.setRc2]

end Sys2Proof.Machine
end

section
/-! PROOFS. The encoding (30_encoding R84 to R97, 42_hamming R161 to R164): the decoder and the encoder are inverse to each
other, and a code without a row is rejected by name. One rule per shape of operand list and per datagram format says both
directions; then there is one case per row. -/

namespace Sys2Proof

/-! ## Operand lists (R97) -/

@[simp] theorem ofNat_toNat_self {w : Nat} (b : BitVec w) : BitVec.ofNat w b.toNat = b := by
  rw [BitVec.ofNat_toNat, BitVec.setWidth_eq]

theorem toNat_ofNat_of_lt {w n : Nat} (h : n < 2 ^ w) : (BitVec.ofNat w n).toNat = n := by
  rw [BitVec.toNat_ofNat, Nat.mod_eq_of_lt h]

theorem decodeBytes_encodeBytes (l : List Byte) : decodeBytes (encodeBytes l) = some l := by
  have hbytes : (encodeBytes l).all (fun n => decide (n < 256)) = true := by
    simp only [encodeBytes, List.all_map, List.all_eq_true, Function.comp, decide_eq_true_eq]
    exact fun b _ => b.isLt
  have hback : (encodeBytes l).map (BitVec.ofNat 8) = l := by
    simp [encodeBytes, Function.comp_def]
  rw [decodeBytes, if_pos hbytes, hback]

/-- A list of numbers stands for bytes only as the list those bytes are invoked with. -/
theorem encodeBytes_of_decodeBytes {args : List Nat} {l : List Byte} (h : decodeBytes args = some l) :
    encodeBytes l = args := by
  unfold decodeBytes at h
  split at h
  case isFalse => cases h
  case isTrue hall =>
    obtain rfl := Option.some.inj h
    have hsame : ∀ n ∈ args, (BitVec.toNat ∘ BitVec.ofNat 8) n = n := fun n hn =>
      toNat_ofNat_of_lt (of_decide_eq_true (List.all_eq_true.mp hall n hn))
    rw [encodeBytes, List.map_map, List.map_congr_left hsame, List.map_id']

theorem decodeNullary_eq_ok {nm : OpName} {i j : Instr} {args : List Nat} :
    decodeNullary nm i args = .ok j ↔ args = [] ∧ i = j := by
  cases args <;> simp [decodeNullary]

theorem decodeUnary_eq_ok {nm : OpName} {w : Nat} {mk : BitVec w → Instr} {args : List Nat} {j : Instr} :
    decodeUnary nm w mk args = .ok j ↔ ∃ b, args = [b.toNat] ∧ mk b = j := by
  constructor
  · intro h
    unfold decodeUnary at h
    split at h
    case h_1 n =>
      split at h
      case isTrue hn => exact ⟨BitVec.ofNat w n, by rw [toNat_ofNat_of_lt hn], Except.ok.inj h⟩
      case isFalse => cases h
    case h_2 => cases h
  · rintro ⟨b, rfl, rfl⟩
    rw [decodeUnary, if_pos b.isLt, ofNat_toNat_self]

theorem decodeTail_eq_ok {nm : OpName} {mk : List Byte → Instr} {args : List Nat} {j : Instr} :
    decodeTail nm mk args = .ok j ↔ ∃ l, args = encodeBytes l ∧ mk l = j := by
  constructor
  · intro h
    unfold decodeTail at h
    split at h
    case h_1 l hl => exact ⟨l, (encodeBytes_of_decodeBytes hl).symm, Except.ok.inj h⟩
    case h_2 => cases h
  · rintro ⟨l, rfl, rfl⟩
    rw [decodeTail, decodeBytes_encodeBytes]

theorem decodeCh2dec_eq_ok {args : List Nat} {j : Instr} :
    decodeCh2dec args = .ok j ↔
      ∃ (raw : List Byte) (idx : BitVec 8), args = idx.toNat :: encodeBytes raw ∧ .ch2dec raw idx = j := by
  constructor
  · intro h
    unfold decodeCh2dec at h
    split at h
    case h_1 idx rest =>
      split at h
      case isTrue hidx =>
        obtain ⟨raw, rfl, hj⟩ := decodeTail_eq_ok.mp h
        exact ⟨raw, BitVec.ofNat 8 idx, by rw [toNat_ofNat_of_lt hidx], hj⟩
      case isFalse => cases h
    case h_2 => cases h
  · rintro ⟨raw, idx, rfl, rfl⟩
    rw [decodeCh2dec, if_pos idx.isLt, ofNat_toNat_self]
    exact decodeTail_eq_ok.mpr ⟨raw, rfl, rfl⟩

theorem decodeAssemble_eq_ok {args : List Nat} {j : Instr} :
    decodeAssemble args = .ok j ↔
      ∃ (a : BitVec 16) (payload : List Byte), args = a.toNat :: encodeBytes payload ∧ .assemble a payload = j := by
  constructor
  · intro h
    unfold decodeAssemble at h
    split at h
    case h_1 a rest =>
      split at h
      case isTrue ha =>
        obtain ⟨payload, rfl, hj⟩ := decodeTail_eq_ok.mp h
        exact ⟨BitVec.ofNat 16 a, payload, by rw [toNat_ofNat_of_lt ha], hj⟩
      case isFalse => cases h
    case h_2 => cases h
  · rintro ⟨a, payload, rfl, rfl⟩
    rw [decodeAssemble, if_pos a.isLt, ofNat_toNat_self]
    exact decodeTail_eq_ok.mpr ⟨payload, rfl, rfl⟩

@[simp] theorem length_encodeBytes (l : List Byte) : (encodeBytes l).length = l.length :=
  List.length_map _

/-- SUBMIT's length operand is the number of payload bytes (D27; log 21). -/
theorem decodeSubmit_eq_ok {args : List Nat} {j : Instr} :
    decodeSubmit args = .ok j ↔ ∃ (idx : BitVec 8) (a : BitVec 16) (payload : List Byte),
      args = idx.toNat :: a.toNat :: payload.length :: encodeBytes payload ∧ .submit idx a payload = j := by
  constructor
  · intro h
    unfold decodeSubmit at h
    split at h
    case h_1 idx a n rest =>
      split at h
      case isTrue hfits =>
        obtain ⟨hidx, ha, rfl⟩ := hfits
        obtain ⟨payload, rfl, hj⟩ := decodeTail_eq_ok.mp h
        exact ⟨BitVec.ofNat 8 idx, BitVec.ofNat 16 a, payload,
          by rw [toNat_ofNat_of_lt hidx, toNat_ofNat_of_lt ha, length_encodeBytes], hj⟩
      case isFalse => cases h
    case h_2 => cases h
  · rintro ⟨idx, a, payload, rfl, rfl⟩
    rw [decodeSubmit, if_pos ⟨idx.isLt, a.isLt, (length_encodeBytes payload).symm⟩, ofNat_toNat_self, ofNat_toNat_self]
    exact decodeTail_eq_ok.mpr ⟨payload, rfl, rfl⟩

/-! ## Datagrams (R84, R87, R88) -/

theorem encodeDg12_div (id : Nat) (val : BitVec 8) : encodeDg12 id val / 2 ^ 8 = id := by
  have := val.isLt
  unfold encodeDg12
  omega

theorem encodeDg12_val (id : Nat) (val : BitVec 8) : BitVec.ofNat 8 (encodeDg12 id val) = val := by
  have := val.isLt
  apply BitVec.eq_of_toNat_eq
  rw [BitVec.toNat_ofNat, encodeDg12]
  omega

theorem encodeDg12_split (n : Nat) : encodeDg12 (n / 2 ^ 8) (BitVec.ofNat 8 n) = n := by
  rw [encodeDg12, BitVec.toNat_ofNat]
  omega

theorem encodeDg18_div (id : Nat) (val : BitVec 8) (sub : BitVec 6) : encodeDg18 id val sub / 2 ^ 14 = id := by
  have := val.isLt
  have := sub.isLt
  unfold encodeDg18
  omega

theorem encodeDg18_val (id : Nat) (val : BitVec 8) (sub : BitVec 6) :
    BitVec.ofNat 8 (encodeDg18 id val sub / 2 ^ 6) = val := by
  have := val.isLt
  have := sub.isLt
  apply BitVec.eq_of_toNat_eq
  rw [BitVec.toNat_ofNat, encodeDg18]
  omega

theorem encodeDg18_sub (id : Nat) (val : BitVec 8) (sub : BitVec 6) : BitVec.ofNat 6 (encodeDg18 id val sub) = sub := by
  have := sub.isLt
  apply BitVec.eq_of_toNat_eq
  rw [BitVec.toNat_ofNat, encodeDg18]
  omega

theorem encodeDg18_split (n : Nat) :
    encodeDg18 (n / 2 ^ 14) (BitVec.ofNat 8 (n / 2 ^ 6)) (BitVec.ofNat 6 n) = n := by
  rw [encodeDg18, BitVec.toNat_ofNat, BitVec.toNat_ofNat]
  omega

theorem encodeDg36_split (n : Nat) :
    encodeDg36 (n / 2 ^ 32) (BitVec.ofNat 8 (n / 2 ^ 24)) (BitVec.ofNat 8 (n / 2 ^ 16)) (BitVec.ofNat 8 (n / 2 ^ 8))
      (BitVec.ofNat 8 n) = n := by
  simp only [encodeDg36, BitVec.toNat_ofNat]
  omega

section Dg36
variable (id : Nat) (b0 b1 b2 b3 : Byte)

theorem encodeDg36_div : encodeDg36 id b0 b1 b2 b3 / 2 ^ 32 = id := by
  have := b0.isLt
  have := b1.isLt
  have := b2.isLt
  have := b3.isLt
  unfold encodeDg36
  omega

theorem encodeDg36_bytes : BitVec.ofNat 8 (encodeDg36 id b0 b1 b2 b3 / 2 ^ 24) = b0 ∧
    BitVec.ofNat 8 (encodeDg36 id b0 b1 b2 b3 / 2 ^ 16) = b1 ∧ BitVec.ofNat 8 (encodeDg36 id b0 b1 b2 b3 / 2 ^ 8) = b2 ∧
    BitVec.ofNat 8 (encodeDg36 id b0 b1 b2 b3) = b3 := by
  have := b0.isLt
  have := b1.isLt
  have := b2.isLt
  have := b3.isLt
  simp only [← BitVec.toNat_inj, BitVec.toNat_ofNat, encodeDg36]
  omega

end Dg36

/-! ## Words (R99): inside the width of its format, a word is read by the rows of the format. -/

theorem decode_wide {fmt : Format} {n : Nat} (h : 2 ^ fmt.width ≤ n) : decode (.word fmt n) = .error (.wordTooWide fmt n) :=
  if_pos h

theorem lt_of_decode_word {fmt : Format} {n : Nat} {i : Instr} (h : decode (.word fmt n) = .ok i) : n < 2 ^ fmt.width := by
  by_contra hwide
  rw [decode_wide (Nat.le_of_not_lt hwide)] at h
  cases h

section Fits
variable {n : Nat}

theorem decode_cutoutStep (h : n < 2 ^ 5) : decode (.word .cutoutStep n) = decodeCutoutStep n := if_neg (Nat.not_le.mpr h)

theorem decode_txState (h : n < 2 ^ 2) : decode (.word .txState n) = decodeTxState n := if_neg (Nat.not_le.mpr h)

theorem decode_mode (h : n < 2 ^ 2) : decode (.word .mode n) = decodeMode n := if_neg (Nat.not_le.mpr h)

theorem decode_rcByte (h : n < 2 ^ 8) : decode (.word .rcByte n) = decodeRcByte n := if_neg (Nat.not_le.mpr h)

theorem decode_dg12Ch1 (h : n < 2 ^ 12) : decode (.word .dg12Ch1 n) = decodeDg12Ch1 n := if_neg (Nat.not_le.mpr h)

theorem decode_dg12Ch2 (h : n < 2 ^ 12) : decode (.word .dg12Ch2 n) = decodeDg12Ch2 n := if_neg (Nat.not_le.mpr h)

theorem decode_dg18 (h : n < 2 ^ 18) : decode (.word .dg18 n) = decodeDg18 n := if_neg (Nat.not_le.mpr h)

theorem decode_dg36 (h : n < 2 ^ 36) : decode (.word .dg36 n) = decodeDg36 n := if_neg (Nat.not_le.mpr h)

end Fits

/-! ## Received bytes (R161 to R164) -/

/-- The bytes with a row of their own are the 71 bytes of the code, in the same order. -/
theorem rcRows_bytes : rcRows.map Prod.fst = rcCodeBytes.map BitVec.toNat := by decide

/-- Each of the 71 rows is well-formed and encodes to the byte it stands at. -/
theorem encode_rcRow {p : Nat × Instr} (h : p ∈ rcRows) : p.2.wellFormed = true ∧ encode p.2 = .word .rcByte p.1 := by
  revert p
  decide

theorem lookup_rcRows_eq_none {b : Byte} : rcRows.lookup b.toNat = none ↔ b ∉ rcCodeBytes := by
  have hcode : b ∈ rcCodeBytes ↔ b.toNat ∈ rcRows.map Prod.fst := by
    rw [rcRows_bytes, List.mem_map_of_injective BitVec.toNat_injective]
  rw [hcode, List.lookup_eq_none_iff]
  simp only [List.mem_map, not_exists, not_and, bne_iff_ne, ne_eq]
  exact ⟨fun h p hp he => h p hp he.symm, fun h p hp he => h p hp he.symm⟩

theorem decodeRcByte_of_lookup {n : Nat} {i : Instr} (h : rcRows.lookup n = some i) : decodeRcByte n = .ok i := by
  rw [decodeRcByte, h]

theorem decodeRcByte_of_not_code {b : Byte} (h : b ∉ rcCodeBytes) : decodeRcByte b.toNat = .ok (.rcInvalid b) := by
  rw [decodeRcByte, lookup_rcRows_eq_none.mpr h, ofNat_toNat_self]

theorem wellFormed_rcInvalid {b : Byte} : (Instr.rcInvalid b).wellFormed = true ↔ b ∉ rcCodeBytes := by
  simp [Instr.wellFormed]

theorem decode_rcInvalid {b : Byte} (h : (Instr.rcInvalid b).wellFormed = true) :
    decode (.word .rcByte b.toNat) = .ok (.rcInvalid b) :=
  (decode_rcByte b.isLt).trans (decodeRcByte_of_not_code (wellFormed_rcInvalid.mp h))

/-! ## Decoding an encoding -/

open Sys2Proof.Laws in
/-- Settles O5: a row without operands decodes by evaluation, the others by the rule of their operand list or of their
datagram format, and RC_INVALID by the absence of its byte from the 71 rows. -/
theorem decodeOfEncodeIsTheOperation : Obligations.DecodeOfEncodeIsTheOperation := by
  unfold Obligations.DecodeOfEncodeIsTheOperation
  intro i hwf
  cases i with
  | hamdec b | rxbyte b => exact decodeUnary_eq_ok.mpr ⟨b, rfl, rfl⟩
  | setMode m => exact decodeUnary_eq_ok.mpr ⟨m, rfl, rfl⟩
  | setCutoutInhibit v => exact decodeUnary_eq_ok.mpr ⟨v, rfl, rfl⟩
  | getRc2Rate idx | getRc2Age idx => exact decodeUnary_eq_ok.mpr ⟨idx, rfl, rfl⟩
  | getXpom q | clrXpom q => exact decodeUnary_eq_ok.mpr ⟨q, rfl, rfl⟩
  | ch1dec raw => exact decodeTail_eq_ok.mpr ⟨raw, rfl, rfl⟩
  | ch2dec raw idx => exact decodeCh2dec_eq_ok.mpr ⟨raw, idx, rfl, rfl⟩
  | assemble a payload => exact decodeAssemble_eq_ok.mpr ⟨a, payload, rfl, rfl⟩
  | submit idx a payload => exact decodeSubmit_eq_ok.mpr ⟨idx, a, payload, rfl, rfl⟩
  | rc1AdrHigh val | rc1AdrLow val =>
    rw [encode, decode_dg12Ch1 (encodeDg12_lt _ (by decide) val), decodeDg12Ch1, encodeDg12_div, encodeDg12_val]
    rfl
  | rc2Pom val | rc2AdrHigh val | rc2AdrLow val | rc2DynNosub val | rc2Unknown3 val | rc2Unknown4 val | rc2Unknown5 val
  | rc2Unknown6 val | rc2Unknown12 val | rc2Unknown13 val | rc2Unknown14 val | rc2Unknown15 val =>
    rw [encode, decode_dg12Ch2 (encodeDg12_lt _ (by decide) val), decodeDg12Ch2, encodeDg12_div, encodeDg12_val]
    rfl
  | rc2Dyn val sub =>
    rw [encode, decode_dg18 (encodeDg18_lt 7 (by decide) val sub), decodeDg18, encodeDg18_div, encodeDg18_val,
      encodeDg18_sub]
    rfl
  | rc2Xpom0 b0 b1 b2 b3 | rc2Xpom1 b0 b1 b2 b3 | rc2Xpom2 b0 b1 b2 b3 | rc2Xpom3 b0 b1 b2 b3 =>
    obtain ⟨h0, h1, h2, h3⟩ := encodeDg36_bytes _ b0 b1 b2 b3
    rw [encode, decode_dg36 (encodeDg36_lt _ (by decide) b0 b1 b2 b3), decodeDg36, encodeDg36_div, h0, h1, h2, h3]
    rfl
  | rcInvalid b => exact decode_rcInvalid hwf
  | _ => rfl

/-! ## Encoding what decodes -/

/-- `i` is the one meaning of `inv`. -/
def Encodes (i : Instr) (inv : Invocation) : Prop :=
  i.wellFormed = true ∧ encode i = inv

theorem encodes_of_decodeOp {nm : OpName} {args : List Nat} {i : Instr} (h : decodeOp nm args = .ok i) :
    Encodes i (.op nm args) := by
  cases nm with
  | hamdec | setMode | setCutoutInhibit | getRc2Rate | getRc2Age | getXpom | clrXpom | rxbyte =>
    obtain ⟨b, rfl, rfl⟩ := decodeUnary_eq_ok.mp h
    exact ⟨rfl, rfl⟩
  | ch1dec =>
    obtain ⟨raw, rfl, rfl⟩ := decodeTail_eq_ok.mp h
    exact ⟨rfl, rfl⟩
  | ch2dec =>
    obtain ⟨raw, idx, rfl, rfl⟩ := decodeCh2dec_eq_ok.mp h
    exact ⟨rfl, rfl⟩
  | assemble =>
    obtain ⟨a, payload, rfl, rfl⟩ := decodeAssemble_eq_ok.mp h
    exact ⟨rfl, rfl⟩
  | submit =>
    obtain ⟨idx, a, payload, rfl, rfl⟩ := decodeSubmit_eq_ok.mp h
    exact ⟨rfl, rfl⟩
  | _ =>
    obtain ⟨rfl, rfl⟩ := decodeNullary_eq_ok.mp h
    exact ⟨rfl, rfl⟩

section Words
variable {n : Nat} {i : Instr}

theorem encodes_of_decodeCutoutStep (h : decodeCutoutStep n = .ok i) : Encodes i (.word .cutoutStep n) := by
  unfold decodeCutoutStep at h
  split at h <;> cases h <;> exact ⟨rfl, rfl⟩

theorem encodes_of_decodeTxState (h : decodeTxState n = .ok i) : Encodes i (.word .txState n) := by
  unfold decodeTxState at h
  split at h <;> cases h <;> exact ⟨rfl, rfl⟩

theorem encodes_of_decodeMode (h : decodeMode n = .ok i) : Encodes i (.word .mode n) := by
  unfold decodeMode at h
  split at h <;> cases h <;> exact ⟨rfl, rfl⟩

theorem encodes_of_decodeRcByte (hn : n < 2 ^ 8) (h : decodeRcByte n = .ok i) : Encodes i (.word .rcByte n) := by
  unfold decodeRcByte at h
  split at h
  case h_1 row hrow =>
    cases h
    obtain ⟨before, after, hrows, -⟩ := List.lookup_eq_some_iff.mp hrow
    exact encode_rcRow (p := (n, i)) (hrows ▸ List.mem_append_right before List.mem_cons_self)
  case h_2 hnone =>
    cases h
    rw [← toNat_ofNat_of_lt hn] at hnone
    exact ⟨wellFormed_rcInvalid.mpr (lookup_rcRows_eq_none.mp hnone), by rw [encode, toNat_ofNat_of_lt hn]⟩

theorem encodes_of_decodeDg12Ch1 (h : decodeDg12Ch1 n = .ok i) : Encodes i (.word .dg12Ch1 n) := by
  have hsplit := encodeDg12_split n
  unfold decodeDg12Ch1 at h
  split at h <;> rename_i hid <;> cases h <;> rw [hid] at hsplit <;> exact ⟨rfl, congrArg _ hsplit⟩

theorem encodes_of_decodeDg12Ch2 (h : decodeDg12Ch2 n = .ok i) : Encodes i (.word .dg12Ch2 n) := by
  have hsplit := encodeDg12_split n
  unfold decodeDg12Ch2 at h
  split at h <;> rename_i hid <;> cases h <;> rw [hid] at hsplit <;> exact ⟨rfl, congrArg _ hsplit⟩

theorem encodes_of_decodeDg18 (h : decodeDg18 n = .ok i) : Encodes i (.word .dg18 n) := by
  have hsplit := encodeDg18_split n
  unfold decodeDg18 at h
  split at h <;> rename_i hid <;> cases h
  rw [hid] at hsplit
  exact ⟨rfl, congrArg _ hsplit⟩

theorem encodes_of_decodeDg36 (h : decodeDg36 n = .ok i) : Encodes i (.word .dg36 n) := by
  have hsplit := encodeDg36_split n
  unfold decodeDg36 at h
  split at h <;> rename_i hid <;> cases h <;> rw [hid] at hsplit <;> exact ⟨rfl, congrArg _ hsplit⟩

end Words

/-- Settles O6, by the rules of the operand lists and of the formats read backwards: what each answers is built from all
of its invocation. -/
theorem encodeOfDecodeIsTheInvocation : Obligations.EncodeOfDecodeIsTheInvocation := by
  unfold Obligations.EncodeOfDecodeIsTheInvocation
  intro inv i h
  cases inv with
  | op nm args => exact encodes_of_decodeOp h
  | word fmt n =>
    have hn := lt_of_decode_word h
    cases fmt with
    | cutoutStep => exact encodes_of_decodeCutoutStep (decode_cutoutStep hn ▸ h)
    | txState => exact encodes_of_decodeTxState (decode_txState hn ▸ h)
    | mode => exact encodes_of_decodeMode (decode_mode hn ▸ h)
    | rcByte => exact encodes_of_decodeRcByte hn (decode_rcByte hn ▸ h)
    | dg12Ch1 => exact encodes_of_decodeDg12Ch1 (decode_dg12Ch1 hn ▸ h)
    | dg12Ch2 => exact encodes_of_decodeDg12Ch2 (decode_dg12Ch2 hn ▸ h)
    | dg18 => exact encodes_of_decodeDg18 (decode_dg18 hn ▸ h)
    | dg36 => exact encodes_of_decodeDg36 (decode_dg36 hn ▸ h)

/-! ## Codes without a row -/

theorem decodeCutoutStep_reserved {n : Nat} (h : 19 ≤ n) : decodeCutoutStep n = .error (.reservedCode .cutoutStep n) := by
  unfold decodeCutoutStep
  split
  case h_20 => rfl
  all_goals omega

theorem decodeDg12Ch1_reserved {n : Nat} (h1 : n / 2 ^ 8 ≠ 1) (h2 : n / 2 ^ 8 ≠ 2) :
    decodeDg12Ch1 n = .error (.reservedCode .dg12Ch1 n) := by
  unfold decodeDg12Ch1
  split
  case h_3 => rfl
  all_goals contradiction

theorem decodeDg12Ch2_reserved {n : Nat} (h8 : 8 ≤ n / 2 ^ 8) (h11 : n / 2 ^ 8 ≤ 11) :
    decodeDg12Ch2 n = .error (.reservedCode .dg12Ch2 n) := by
  unfold decodeDg12Ch2
  split
  case h_13 => rfl
  all_goals omega

theorem decodeDg18_reserved {n : Nat} (h : n / 2 ^ 14 ≠ 7) : decodeDg18 n = .error (.reservedCode .dg18 n) := by
  unfold decodeDg18
  split
  case h_1 => contradiction
  case h_2 => rfl

theorem decodeDg36_reserved {n : Nat} (h : n / 2 ^ 32 < 8 ∨ 11 < n / 2 ^ 32) :
    decodeDg36 n = .error (.reservedCode .dg36 n) := by
  unfold decodeDg36
  split
  case h_5 => rfl
  all_goals omega

/-- Settles O7: a code that fits its format but has no row falls to the last line of the format's table. -/
theorem codesWithoutARowAreRejectedByName : Obligations.CodesWithoutARowAreRejectedByName := by
  unfold Obligations.CodesWithoutARowAreRejectedByName
  refine ⟨fun n hres hn => ?_, fun n hn h1 h2 => ?_, fun n hn h8 h11 => ?_, fun n hn hid => ?_, fun n hn hid => ?_,
    fun fmt n hwide => decode_wide hwide⟩
  · exact (decode_cutoutStep hn).trans (decodeCutoutStep_reserved hres)
  · exact (decode_dg12Ch1 hn).trans (decodeDg12Ch1_reserved h1 h2)
  · exact (decode_dg12Ch2 hn).trans (decodeDg12Ch2_reserved h8 h11)
  · exact (decode_dg18 hn).trans (decodeDg18_reserved hid)
  · exact (decode_dg36 hn).trans (decodeDg36_reserved hid)

/-! ## Single words and packets -/

/-- Settles O4: every word is closed, so decoding it is an evaluation. -/
theorem wordsOfTheSpecDecodeToTheirOperations : Obligations.WordsOfTheSpecDecodeToTheirOperations := by
  unfold Obligations.WordsOfTheSpecDecodeToTheirOperations
  decide

open Sys2Proof.Machine

/-- The SUBMIT a packet builder hands over is read back as that SUBMIT. -/
theorem decode_submitInvocation (idx : BitVec 8) (a : BitVec 16) (payload : List Byte) :
    decode (submitInvocation idx a payload) = .ok (.submit idx a payload) :=
  decodeOfEncodeIsTheOperation (.submit idx a payload) rfl

theorem speed28Byte_eq (dir : Bool) (speed : BitVec 5) :
    speed28Byte dir speed =
      BitVec.ofNat 8 (64 + (if dir then 32 else 0) + 16 * (speed.toNat % 2) + speed.toNat / 2) := by
  revert dir speed
  decide

/-- Settles O59: a packet is read back as its SUBMIT, so only the bytes are left to compute. -/
theorem boundaryPacketsHaveTheBytesOfTheSpec : Obligations.BoundaryPacketsHaveTheBytesOfTheSpec := by
  unfold Obligations.BoundaryPacketsHaveTheBytesOfTheSpec
  refine ⟨fun idx a dir speed => ?speed, fun idx => ⟨?_, ?_, ?_, ?_⟩, decode_submitInvocation _ _ _⟩
  case speed => rw [sendSpeed28, decode_submitInvocation, speed28Byte_eq]
  all_goals exact decode_submitInvocation _ _ _

end Sys2Proof
end

section
/-! PROOFS. The RC_BYTE rows and the decoder table (42_hamming_lut R160 to R165): a row answers the symbol of its byte, and
the counts over the 256 indices are counts in the table itself. -/

namespace Sys2Proof.Machine

/-! ## What a row answers -/

/-- A row with a byte of its own is the decoding of that byte (log 12). -/
theorem exec_rcRow {p : Nat × Instr} (hp : p ∈ rcRows) (s : State) :
    exec p.2 s = .next (answerSymbol (BitVec.ofNat 8 p.1) s) := by
  simp only [rcRows, rcRows0, rcRows1, rcRows2, rcRows3, rcRows4, List.cons_append, List.nil_append] at hp
  fin_cases hp <;> rfl

theorem answerSymbol_eq (b : Byte) (s : State) : answerSymbol b s = s.setResponse (some (.symbol (hamDec b))) := rfl

/-- All that a pair of byte and row has to be looked up for. -/
structure RowOfSymbol (n : Nat) (i : Instr) (v : BitVec 8) : Prop where
  byte : n < 2 ^ 8
  listed : rcRows.lookup n = some i
  symbol : hamDec (BitVec.ofNat 8 n) = v

namespace RowOfSymbol

variable {n : Nat} {i : Instr} {v : BitVec 8} (h : RowOfSymbol n i v)
include h

theorem decode_eq : decode (.word .rcByte n) = .ok i :=
  (decode_rcByte h.byte).trans (decodeRcByte_of_lookup h.listed)

theorem exec_eq (s : State) : exec i s = .next { s with response := some (.symbol v) } := by
  obtain ⟨before, after, hrows, -⟩ := List.lookup_eq_some_iff.mp h.listed
  have hrow : (n, i) ∈ rcRows := hrows ▸ List.mem_append_right before List.mem_cons_self
  rw [exec_rcRow hrow s, answerSymbol_eq, h.symbol, State.setResponse]

theorem hamdec_eq (s : State) : exec (.hamdec (BitVec.ofNat 8 n)) s = .next { s with response := some (.symbol v) } := by
  rw [(PureRead.hamdec _).exec_eq_with_response, h.symbol]

end RowOfSymbol

/-- What a table of bytes, rows and symbols says once each line has been looked up. -/
theorem rows_answer_their_symbol {rows : List (Nat × Instr × BitVec 8)}
    (hrows : ∀ row ∈ rows, row.1 < 2 ^ 8 ∧ rcRows.lookup row.1 = some row.2.1 ∧ hamDec (BitVec.ofNat 8 row.1) = row.2.2) :
    ∀ row ∈ rows, decode (.word .rcByte row.1) = .ok row.2.1 ∧
      ∀ s : State, exec row.2.1 s = .next { s with response := some (.symbol row.2.2) } ∧
        exec (.hamdec (BitVec.ofNat 8 row.1)) s = .next { s with response := some (.symbol row.2.2) } := by
  intro row hrow
  obtain ⟨hbyte, hlisted, hval⟩ := hrows row hrow
  have hsymbol : RowOfSymbol row.1 row.2.1 row.2.2 := ⟨hbyte, hlisted, hval⟩
  exact ⟨hsymbol.decode_eq, fun s => ⟨hsymbol.exec_eq s, hsymbol.hamdec_eq s⟩⟩

/-- Settles O31: the 64 lines are looked up, and `rows_answer_their_symbol` says the rest. -/
theorem dataByteRowsAnswerTheirValue : Obligations.DataByteRowsAnswerTheirValue := by
  unfold Obligations.DataByteRowsAnswerTheirValue
  exact rows_answer_their_symbol (by decide)

/-! ## Bytes outside the code (R163) -/

theorem hamDec_of_not_code {b : Byte} (h : b ∉ rcCodeBytes) : hamDec b = 0xFF := by
  revert b
  decide

theorem exec_rcInvalid (b : Byte) (s : State) : exec (.rcInvalid b) s = .next (answerSymbol b s) := rfl

/-- Settles O32: the sentinels as the data bytes, and a byte outside the code by `hamDec_of_not_code`. -/
theorem sentinelAndInvalidRowsAnswerTheirSymbol : Obligations.SentinelAndInvalidRowsAnswerTheirSymbol := by
  unfold Obligations.SentinelAndInvalidRowsAnswerTheirSymbol
  refine ⟨rows_answer_their_symbol (by decide), fun b s hwf => ⟨decode_rcInvalid hwf, ?row, ?hamdec⟩⟩
  case row => rw [exec_rcInvalid, answerSymbol_eq, hamDec_of_not_code (wellFormed_rcInvalid.mp hwf), State.setResponse]
  case hamdec =>
    rw [(PureRead.hamdec b).exec_eq_with_response, hamDec_of_not_code (wellFormed_rcInvalid.mp hwf)]

/-! ## Counts (R165) -/

/-- Reading the table at its 256 indices gives the table. -/
theorem map_lut_range : (List.range 256).map (fun b => lut (BitVec.ofNat 8 b)) = lutTable := by
  have hlength : lutTable.length = 256 := by
    simp only [lutTable, List.length_append]
    rfl
  refine List.ext_getElem (by simp [hlength]) fun k hk hk' => ?_
  rw [hlength] at hk'
  rw [List.getElem_map, List.getElem_range, lut, toNat_ofNat_of_lt hk', List.getD_eq_getElem]

theorem countP_lut_range (v : BitVec 8) :
    (List.range 256).countP (fun b => lut (BitVec.ofNat 8 b) == v) = lutTable.count v := by
  rw [← map_lut_range, List.count, List.countP_map]
  rfl

/-- Settles O33: validity index by index, and each count in the table itself, row by row. -/
theorem lutIsTheFourOfEightCode : Obligations.LutIsTheFourOfEightCode := by
  unfold Obligations.LutIsTheFourOfEightCode
  simp only [countP_lut_range, lutTable, List.count_append]
  exact ⟨by decide, by decide, by decide, by decide, by decide⟩

end Sys2Proof.Machine
end

section
/-! PROOFS. The foreground (44_packet_buffer R210 to R217, 45_control_and_accessors R230 to R247): the frame of ASSEMBLE,
SUBMIT on an empty slot and with an illegal length, the control operations, and the accessors that compute. -/

namespace Sys2Proof.Machine

/-! ## More about the sparse tables (log 15) -/

section Table
variable {α : Type} [DecidableEq α] {dflt : α}

omit [DecidableEq α] in
/-- An index beyond every listed one reads as the default. -/
theorem Memory.read_of_forall_ne {m : Memory α} {k : Nat} (h : ∀ p ∈ m, p.1 ≠ k) : Memory.read dflt m k = dflt := by
  induction m with
  | nil => rfl
  | cons p m ih =>
    rw [Memory.read, if_neg (h p List.mem_cons_self)]
    exact ih fun q hq => h q (List.mem_cons_of_mem _ hq)

omit [DecidableEq α] in
theorem Memory.read_eq_default {m : Memory α} {n k : Nat} (hm : ∀ p ∈ m, p.1 < n) (hk : n ≤ k) :
    Memory.read dflt m k = dflt :=
  Memory.read_of_forall_ne fun p hp => (Nat.lt_of_lt_of_le (hm p hp) hk).ne

/-- A listed entry is what its index reads as. -/
theorem Memory.read_of_mem {m : Memory α} (hw : Memory.wf dflt m) {p : Nat × α} (hp : p ∈ m) :
    Memory.read dflt m p.1 = p.2 := by
  induction m with
  | nil => cases hp
  | cons q m ih =>
    obtain ⟨j, v⟩ := q
    rcases List.mem_cons.mp hp with rfl | hp
    · rw [Memory.read, if_pos rfl]
    · have hlt : j < p.1 := (List.pairwise_cons.mp hw.1).1 p hp
      rw [Memory.read, if_neg hlt.ne]
      exact ih (Memory.wf_tail hw) hp

omit [DecidableEq α] in
theorem Memory.below_below {n : Nat} {f : α → α} (hf : ∀ v, f (f v) = f v) (i : Nat) (v : α) :
    Memory.below n f i (Memory.below n f i v) = Memory.below n f i v := by
  unfold Memory.below
  split
  · exact hf v
  · rfl

/-- Mapping twice with an idempotent function is mapping once. -/
theorem Memory.mapBelow_mapBelow {n : Nat} {f : α → α} (hf : ∀ v, f (f v) = f v) (m : Memory α) :
    Memory.mapBelow dflt n f (Memory.mapBelow dflt n f m) = Memory.mapBelow dflt n f m := by
  induction m with
  | nil => rfl
  | cons p m ih =>
    obtain ⟨i, v⟩ := p
    by_cases hv : Memory.below n f i v = dflt
    · rw [Memory.mapBelow, if_pos hv, ih]
    · rw [Memory.mapBelow, if_neg hv, Memory.mapBelow, Memory.below_below hf, if_neg hv, ih]

end Table

theorem hasSlot_eq_true_iff {s : State} {idx : BitVec 8} : s.hasSlot idx = true ↔ idx.toNat < s.cfg.nLoco :=
  decide_eq_true_iff

theorem hasSlot_eq_false_iff {s : State} {idx : BitVec 8} : s.hasSlot idx = false ↔ s.cfg.nLoco ≤ idx.toNat := by
  rw [State.hasSlot, decide_eq_false_iff_not, Nat.not_lt]

/-! ## ASSEMBLE (R90, R91, R210) -/

/-- The two top bits of a long address byte do not meet the six address bits. -/
theorem longAddress_or (x : BitVec 6) : (0xC0 : Byte) ||| x.setWidth 8 = BitVec.ofNat 8 (192 + x.toNat) := by
  revert x
  decide

theorem addrBytes_eq (a : BitVec 16) :
    addrBytes a =
      if a.toNat = 65535 then []
      else if a.toNat ≤ 127 then [BitVec.ofNat 8 a.toNat]
      else [BitVec.ofNat 8 (192 + a.toNat / 256 % 64), BitVec.ofNat 8 (a.toNat % 256)] := by
  have hnone : a = broadcast ↔ a.toNat = 65535 := BitVec.toNat_inj.symm
  have hlow : a.extractLsb' 0 8 = BitVec.ofNat 8 a.toNat := by
    apply BitVec.eq_of_toNat_eq
    simp
  have hlow' : BitVec.ofNat 8 a.toNat = BitVec.ofNat 8 (a.toNat % 256) := by
    apply BitVec.eq_of_toNat_eq
    simp
  have hhigh : (a.extractLsb' 8 6).toNat = a.toNat / 256 % 64 := by
    rw [BitVec.extractLsb'_toNat, Nat.shiftRight_eq_div_pow]
  simp only [addrBytes, hnone, longAddress_or, hhigh, hlow, ← hlow']

theorem PureRead.assemble (a : BitVec 16) (payload : List Byte) :
    PureRead (.assemble a payload) (fun _ => .frame (Machine.assemble a payload)) :=
  ⟨fun _ => rfl, fun _ _ => rfl⟩

/-- Settles O45: ASSEMBLE is the pure read of its frame, whose address bytes are `addrBytes_eq`. -/
theorem assembleBuildsAddressPayloadChecksum : Obligations.AssembleBuildsAddressPayloadChecksum := by
  unfold Obligations.AssembleBuildsAddressPayloadChecksum
  intro a payload s
  dsimp only
  rw [(PureRead.assemble a payload).exec_eq_with_response, assemble, xorBytes_eq_foldr, addrBytes_eq]

/-! ## SUBMIT (R212 to R217) -/

theorem exec_submit (idx : BitVec 8) (a : BitVec 16) (payload : List Byte) (s : State) :
    exec (.submit idx a payload) s = .next (submit idx a payload s) := rfl

theorem frameLengthLegal_eq_true_iff {n : Nat} : frameLengthLegal n = true ↔ 2 ≤ n ∧ n ≤ 9 := by
  rw [frameLengthLegal, Bool.and_eq_true, decide_eq_true_iff, decide_eq_true_iff]
  rfl

theorem submitRefused_eq_false_iff {a : BitVec 16} {payload : List Byte} :
    submitRefused a payload = false ↔ 2 ≤ (assemble a payload).length ∧ (assemble a payload).length ≤ 9 := by
  rw [submitRefused, Bool.not_eq_false', frameLengthLegal_eq_true_iff]

theorem submitRefused_eq_true_iff {a : BitVec 16} {payload : List Byte} :
    submitRefused a payload = true ↔ (assemble a payload).length < 2 ∨ 9 < (assemble a payload).length := by
  rw [← Bool.not_eq_false, submitRefused_eq_false_iff]
  omega

/-- SUBMIT is refused, or held, or fills the empty slot (R212, R213, R217). -/
theorem submit_cases (idx : BitVec 8) (a : BitVec 16) (payload : List Byte) (s : State) :
    (submitRefused a payload = true ∧ submit idx a payload s = refuse .badFrameLength s) ∨
    (submitRefused a payload = false ∧ s.busy = true ∧ submit idx a payload s = s) ∨
    (submitRefused a payload = false ∧ s.busy = false ∧
      submit idx a payload s = respond .done (fillSlot idx (assemble a payload) (noteAddress idx a s))) := by
  cases hrefused : submitRefused a payload <;> cases hbusy : s.busy <;> simp [submit, hrefused, hbusy]

theorem busy_eq_false_iff (s : State) : s.busy = false ↔ s.buf.bufLen = 0 := by
  rw [← Bool.not_eq_true, busy_eq_true_iff, not_not]

/-- Settles O47, by the refused case of `submit_cases`. -/
theorem submitOfAnIllegalLengthIsRefused : Obligations.SubmitOfAnIllegalLengthIsRefused := by
  unfold Obligations.SubmitOfAnIllegalLengthIsRefused
  intro s idx a payload hlen
  have hrefused := submitRefused_eq_true_iff.mpr hlen
  obtain ⟨-, hsubmit⟩ | ⟨hlegal, -⟩ | ⟨hlegal, -⟩ := submit_cases idx a payload s
  · rw [exec_submit, hsubmit, refuse_eq, State.setRaised, State.setResponse]
  · exact absurd (hlegal.symm.trans hrefused) Bool.false_ne_true
  · exact absurd (hlegal.symm.trans hrefused) Bool.false_ne_true

theorem addressChanged_eq_true_iff {idx : BitVec 8} {a : BitVec 16} {s : State} :
    addressChanged idx a s = true ↔ idx.toNat < s.cfg.nLoco ∧ a ≠ broadcast ∧ s.locoAddrAt idx ≠ a := by
  simp [addressChanged, State.hasSlot, and_assoc]

/-- The address check writes the two tables only. -/
theorem noteAddress_writes (idx : BitVec 8) (a : BitVec 16) (s : State) :
    ∃ st la, noteAddress idx a s = (s.setStat st).setLocoAddr la := by
  unfold noteAddress
  split
  · rw [statReset, updStat_eq]
    exact ⟨_, _, rfl⟩
  · exact ⟨s.stat, s.locoAddr, rfl⟩

/-- The address noted is the one submitted, unless the index has no entry or there is no address (R214). -/
theorem locoAddrAt_noteAddress {s : State} (hw : Memory.wf broadcast s.locoAddr) (idx k : BitVec 8) (a : BitVec 16) :
    (noteAddress idx a s).locoAddrAt k =
      if k = idx ∧ idx.toNat < s.cfg.nLoco ∧ a ≠ broadcast then a else s.locoAddrAt k := by
  unfold noteAddress
  split
  case isTrue hchanged =>
    obtain ⟨hslot, haddr, -⟩ := addressChanged_eq_true_iff.mp hchanged
    have hkeep : (statReset idx (s.setLocoAddrAt idx a)).locoAddrAt k = (s.setLocoAddrAt idx a).locoAddrAt k := by
      rw [statReset, updStat_eq, State.locoAddrAt, State.setStat_locoAddr, State.locoAddrAt]
    rw [hkeep]
    by_cases hk : k = idx
    · rw [hk, if_pos ⟨rfl, hslot, haddr⟩, locoAddrAt_setLocoAddrAt _ _ _ hw]
    · rw [if_neg fun h => hk h.1, locoAddrAt_setLocoAddrAt_other _ _ _ _ hk]
  case isFalse hsame =>
    split
    case isTrue hcond =>
      obtain ⟨rfl, hslot, haddr⟩ := hcond
      exact not_not.mp fun hne => hsame (addressChanged_eq_true_iff.mpr ⟨hslot, haddr, hne⟩)
    case isFalse => rfl

/-- A change of the address resets the statistics of its index (R214). -/
theorem statAt_noteAddress {s : State} (hw : Memory.wf StatEntry.zero s.stat) (idx k : BitVec 8) (a : BitVec 16) :
    (noteAddress idx a s).statAt k =
      if k = idx ∧ idx.toNat < s.cfg.nLoco ∧ a ≠ broadcast ∧ s.locoAddrAt idx ≠ a then StatEntry.zero else s.statAt k := by
  simp only [noteAddress, addressChanged_eq_true_iff]
  by_cases hchanged : idx.toNat < s.cfg.nLoco ∧ a ≠ broadcast ∧ s.locoAddrAt idx ≠ a
  · rw [if_pos hchanged]
    by_cases hk : k = idx
    · rw [hk, if_pos ⟨rfl, hchanged⟩, statReset,
        statAt_updStat (s.setLocoAddrAt idx a) idx _ (hasSlot_eq_true_iff.mpr hchanged.1) hw]
    · rw [if_neg fun h => hk h.1, statReset, statAt_updStat_other _ _ _ _ hk]
      rfl
  · rw [if_neg hchanged, if_neg fun h => hchanged h.2]

theorem fillSlot_bufLen_toNat (idx : BitVec 8) {frame : List Byte} (h : frame.length ≤ 9) (s : State) :
    (fillSlot idx frame s).buf.bufLen.toNat = frame.length :=
  toNat_ofNat_of_lt (show frame.length < 2 ^ 4 by omega)

theorem getElem?_fillSlot (idx : BitVec 8) (frame : List Byte) (s : State) {j : Nat} (hj : j < 9) :
    (fillSlot idx frame s).buf.bufBytes[j]? = if j < frame.length then frame[j]? else s.buf.bufBytes[j]? := by
  have hstored := getElem?_storeBytes frame 0 j s.buf.bufBytes hj
  simp only [Nat.zero_le, Nat.zero_add, true_and, Nat.sub_zero] at hstored
  exact hstored

/-- Settles O48, by the filling case of `submit_cases`: the slot by the lemmas of `fillSlot`, the tables by those of
`noteAddress`, which `fillSlot` leaves alone. -/
theorem submitFillsTheEmptySlot : Obligations.SubmitFillsTheEmptySlot := by
  unfold Obligations.SubmitFillsTheEmptySlot
  intro s idx a payload hstat hloco hlen hlen' hempty
  obtain ⟨hrefused, -⟩ | ⟨-, hbusy, -⟩ | ⟨-, -, hsubmit⟩ := submit_cases idx a payload s
  · exact absurd (submitRefused_eq_true_iff.mp hrefused) (by omega)
  · exact absurd hempty ((busy_eq_true_iff s).mp hbusy)
  · obtain ⟨st, la, hnote⟩ := noteAddress_writes idx a s
    refine ⟨_, exec_submit idx a payload s, ?frame, ?length, ?index, fun j hj => ?bytes, fun k => ?address, fun k => ?stat⟩
    all_goals rw [hsubmit]
    case frame => rw [hnote]; rfl
    case length => exact fillSlot_bufLen_toNat idx hlen' _
    case index => rfl
    case bytes =>
      have hbuf : (noteAddress idx a s).buf = s.buf := by rw [hnote]; rfl
      exact hbuf ▸ getElem?_fillSlot idx (assemble a payload) (noteAddress idx a s) hj
    case address => exact locoAddrAt_noteAddress hloco idx k a
    case stat => exact statAt_noteAddress hstat idx k a

/-! ## Control (R230 to R234) -/

theorem setMode_code (m : Mode) (s : State) : setMode m.code s = respond .done (s.setCtl { s.ctl with mode := m }) := by
  cases m <;> rfl

theorem setMode_reserved (s : State) : setMode 3 s = refuse .badMode s := rfl

theorem exec_setCutoutInhibit (v : BitVec 1) (s : State) :
    exec (.setCutoutInhibit v) s = .next (respond .done (s.setCtl { s.ctl with cutoutInhibit := v == 1 })) := rfl

/-- Settles O49: every row is SET_MODE of its code, which writes the mode of the code (`setMode_code`) or refuses it. -/
theorem modeAndInhibitAreWritten : Obligations.ModeAndInhibitAreWritten := by
  unfold Obligations.ModeAndInhibitAreWritten
  refine fun s => ⟨fun row hrow => ?mode, fun i hi => ?reserved, exec_setCutoutInhibit 0 s, exec_setCutoutInhibit 1 s⟩
  case mode =>
    have hexec : exec row.1 s = .next (setMode row.2.code s) := by
      simp only [List.mem_cons, List.not_mem_nil, or_false] at hrow
      obtain rfl | rfl | rfl | rfl | rfl | rfl := hrow <;> rfl
    rw [hexec, setMode_code, respond_eq, State.setCtl, State.setResponse]
  case reserved =>
    have hexec : exec i s = .next (setMode 3 s) := by
      simp only [List.mem_cons, List.not_mem_nil, or_false] at hi
      obtain rfl | rfl := hi <;> rfl
    rw [hexec, setMode_reserved, refuse_eq, State.setRaised, State.setResponse]

theorem exec_boosterOn (s : State) : exec .boosterOn s = .next (respond .done (boosterOn s)) := rfl

theorem exec_boosterOff (s : State) : exec .boosterOff s = .next (respond .done (boosterOff s)) := rfl

/-- Settles O50: the slots are `xpomAt_mapSlots`. -/
theorem boosterOnBlocksTheXpomSlots : Obligations.BoosterOnBlocksTheXpomSlots := by
  unfold Obligations.BoosterOnBlocksTheXpomSlots
  exact fun s => ⟨_, exec_boosterOn s, rfl, fun q => xpomAt_mapSlots _ s q⟩

theorem StatEntry.clearTimes_clearTimes (e : StatEntry) : e.clearTimes.clearTimes = e.clearTimes := rfl

theorem StatEntry.clearTimes_zero : StatEntry.zero.clearTimes = StatEntry.zero := rfl

theorem xpomAt_boosterOff (s : State) (q : BitVec 2) : (boosterOff s).xpomAt q = { s.xpomAt q with valid := false } :=
  xpomAt_mapSlots (fun x => { x with valid := false }) s q

theorem statAt_boosterOff {s : State} (hw : Memory.wf StatEntry.zero s.stat) (k : BitVec 8) :
    (boosterOff s).statAt k = Memory.below s.cfg.nLoco StatEntry.clearTimes k.toNat (s.statAt k) :=
  Memory.read_mapBelow _ StatEntry.clearTimes_zero hw _

/-- With every entry below N_LOCO the bound of the map does not show. -/
theorem statAt_boosterOff_of_bounded {s : State} (hw : Memory.wf StatEntry.zero s.stat)
    (hbound : ∀ p ∈ s.stat, p.1 < s.cfg.nLoco) (k : BitVec 8) : (boosterOff s).statAt k = (s.statAt k).clearTimes := by
  rw [statAt_boosterOff hw, Memory.below]
  split
  case isTrue => rfl
  case isFalse hk =>
    have hzero : s.statAt k = StatEntry.zero := Memory.read_eq_default hbound (Nat.le_of_not_lt hk)
    rw [hzero, StatEntry.clearTimes_zero]

theorem mapSlots_mapSlots {f : XpomSlot → XpomSlot} (hf : ∀ x, f (f x) = f x) (v : Vector XpomSlot 4) :
    mapSlots f (mapSlots f v) = mapSlots f v := by
  simp [mapSlots, hf]

/-- BOOSTER_OFF of a state it has left changes nothing. -/
theorem boosterOff_again (s : State) :
    respond .done (boosterOff (respond .done (boosterOff s))) = respond .done (boosterOff s) := by
  have hxpom := mapSlots_mapSlots (f := fun x => { x with valid := false }) (fun _ => rfl) s.xpom
  have hstat := Memory.mapBelow_mapBelow (dflt := StatEntry.zero) (n := s.cfg.nLoco) StatEntry.clearTimes_clearTimes s.stat
  simp only [respond_eq, State.setResponse, boosterOff, State.setCtl, State.setOut, State.setXpom, State.setStat, hxpom,
    hstat]

/-- Settles O51: the slots by `xpomAt_boosterOff`, the statistics by `statAt_boosterOff_of_bounded`, and the second
BOOSTER_OFF by `boosterOff_again`. -/
theorem boosterOffClearsOutputsAndTransientState : Obligations.BoosterOffClearsOutputsAndTransientState := by
  unfold Obligations.BoosterOffClearsOutputsAndTransientState
  intro s hw hbound
  refine ⟨_, exec_boosterOff s, rfl, xpomAt_boosterOff s, statAt_boosterOff_of_bounded hw hbound, ?_⟩
  rw [exec_boosterOff, boosterOff_again]

/-! ## The accessors that compute (R235 to R237) -/

theorem rc1Fresh_eq (s : State) :
    s.rc1Fresh =
      (s.rc1.addrValid && decide ((s.time.ms.toNat + 2 ^ 32 - s.rc1.stamp.toNat) % 2 ^ 32 < 1000)) := by
  have hage : (s.time.ms - s.rc1.stamp).toNat = (s.time.ms.toNat + 2 ^ 32 - s.rc1.stamp.toNat) % 2 ^ 32 := by
    have := s.rc1.stamp.isLt
    rw [BitVec.toNat_sub]
    congr 1
    omega
  rw [State.rc1Fresh, hage, rc1StaleMs]

/-- Settles O53: GET_RC1_ADDR is the pure read of the fresh flag, whose age is `rc1Fresh_eq`, and of the address. -/
theorem rc1AddressIsReportedWhileFresh : Obligations.Rc1AddressIsReportedWhileFresh := by
  unfold Obligations.Rc1AddressIsReportedWhileFresh
  intro s
  rw [PureRead.getRc1Addr.exec_eq_with_response, rc1Fresh_eq]

theorem StatEntry.rate_eq (e : StatEntry) : e.rate = BitVec.ofNat 8 (2 * (e.rspCnt (!e.active)).toNat) := by
  have := (e.rspCnt (!e.active)).isLt
  apply BitVec.eq_of_toNat_eq
  simp [StatEntry.rate, Nat.mul_mod]

theorem rc2Rate_of_slot {idx : BitVec 8} {s : State} (h : idx.toNat < s.cfg.nLoco) :
    rc2Rate idx s = BitVec.ofNat 8 (2 * ((s.statAt idx).rspCnt (!(s.statAt idx).active)).toNat) := by
  rw [rc2Rate, if_pos (hasSlot_eq_true_iff.mpr h), StatEntry.rate_eq]

theorem rc2Age_of_slot {idx : BitVec 8} {s : State} (h : idx.toNat < s.cfg.nLoco) :
    rc2Age idx s = BitVec.ofNat 32 (s.time.ms.toNat + 2 ^ 32 - (s.statAt idx).lastRspMs.toNat) := by
  have := (s.statAt idx).lastRspMs.isLt
  rw [rc2Age, if_pos (hasSlot_eq_true_iff.mpr h)]
  apply BitVec.eq_of_toNat_eq
  rw [BitVec.toNat_sub, BitVec.toNat_ofNat]
  congr 1
  omega

/-- Settles O54: both are pure reads; with an entry `rc2Rate_of_slot` and `rc2Age_of_slot` compute, without one the
constants stand. -/
theorem rateAndAgeOfALoco : Obligations.RateAndAgeOfALoco := by
  unfold Obligations.RateAndAgeOfALoco
  intro s idx
  rw [(PureRead.getRc2Rate idx).exec_eq_with_response, (PureRead.getRc2Age idx).exec_eq_with_response]
  refine ⟨fun hslot => ?_, fun hnone => ?_⟩
  · rw [rc2Rate_of_slot hslot, rc2Age_of_slot hslot, StatEntry.rspCnt]
    cases (s.statAt idx).active <;> exact ⟨rfl, rfl⟩
  · have hno : ¬ s.hasSlot idx = true := Bool.eq_false_iff.mp (hasSlot_eq_false_iff.mpr hnone)
    rw [rc2Rate, rc2Age, if_neg hno, if_neg hno]
    exact ⟨rfl, rfl⟩

end Sys2Proof.Machine
end

section
/-! PROOFS. What the foreground owns (10_state R43, 60_exceptions R294): its port offers twelve effects, and each writes
only what the foreground owns. -/

namespace Sys2Proof.Machine

/-! ## The effects of the foreground port -/

/-- Everything an operation of the foreground port can do. -/
inductive ForegroundEffect (s : State) : State → Prop
  /-- A SUBMIT on a full slot (R213). -/
  | held : ForegroundEffect s s
  /-- A pure read (20_memory R79). -/
  | answered (r : Response) : ForegroundEffect s (respond r s)
  /-- A refused SUBMIT or SET_MODE (R217, R230). -/
  | refused (f : Raised) : ForegroundEffect s (refuse f s)
  /-- SET_MODE (R230). -/
  | modeSet (m : Mode) : ForegroundEffect s (respond .done (s.setCtl { s.ctl with mode := m }))
  /-- SET_CUTOUT_INHIBIT (R234). -/
  | inhibitSet (v : Bool) : ForegroundEffect s (respond .done (s.setCtl { s.ctl with cutoutInhibit := v }))
  /-- BOOSTER_ON (R232). -/
  | poweredOn : ForegroundEffect s (respond .done (boosterOn s))
  /-- BOOSTER_OFF (R233). -/
  | poweredOff : ForegroundEffect s (respond .done (boosterOff s))
  /-- CLR_CV (R239). -/
  | cvCleared : ForegroundEffect s (respond .done (s.setRc2 { s.rc2 with cvValid := false }))
  /-- CLR_XPOM (R241). -/
  | xpomCleared (q : BitVec 2) :
      ForegroundEffect s (respond .done (s.setXpomAt q { s.xpomAt q with valid := false }))
  /-- CLR_DYN (R243). -/
  | dynCleared : ForegroundEffect s (respond .done (s.setRc2 { s.rc2 with dynValid := false }))
  /-- CLR_RC2_ADDR (R245). -/
  | addrCleared : ForegroundEffect s (respond .done (s.setRc2 { s.rc2 with addrValid := false }))
  /-- SUBMIT of a legal frame on an empty slot (R212). -/
  | filled (idx : BitVec 8) (a : BitVec 16) (payload : List Byte) (hlegal : submitRefused a payload = false)
      (hempty : s.buf.bufLen = 0) :
      ForegroundEffect s (respond .done (fillSlot idx (assemble a payload) (noteAddress idx a s)))

theorem submit_effect (idx : BitVec 8) (a : BitVec 16) (payload : List Byte) (s : State) :
    ForegroundEffect s (submit idx a payload s) := by
  obtain ⟨-, hsubmit⟩ | ⟨-, -, hsubmit⟩ | ⟨hlegal, hempty, hsubmit⟩ := submit_cases idx a payload s <;> rw [hsubmit]
  · exact .refused _
  · exact .held
  · exact .filled idx a payload hlegal ((busy_eq_false_iff s).mp hempty)

theorem setMode_effect (m : BitVec 2) (s : State) : ForegroundEffect s (setMode m s) := by
  unfold setMode
  split
  · exact .modeSet _
  · exact .refused _

/-- Every operation of the port answers a next state and has one of the effects. -/
theorem exec_foreground {i : Instr} (h : isForeground i = true) (s : State) :
    ∃ t, exec i s = .next t ∧ ForegroundEffect s t := by
  cases i with
  | assemble | getMode | getRc1Addr | getRc2Rate | getRc2Age | getCv | getXpom | getDyn | getRc2Addr | getBufBusy | getMs =>
    exact ⟨_, rfl, .answered _⟩
  | submit idx a payload => exact ⟨_, rfl, submit_effect idx a payload s⟩
  | setMode m => exact ⟨_, rfl, setMode_effect m s⟩
  | modeNoRailcom => exact ⟨_, rfl, setMode_effect 0 s⟩
  | modeRailcom => exact ⟨_, rfl, setMode_effect 1 s⟩
  | modeProgramming => exact ⟨_, rfl, setMode_effect 2 s⟩
  | modeReserved3 => exact ⟨_, rfl, setMode_effect 3 s⟩
  | setCutoutInhibit v => exact ⟨_, rfl, .inhibitSet _⟩
  | boosterOn => exact ⟨_, rfl, .poweredOn⟩
  | boosterOff => exact ⟨_, rfl, .poweredOff⟩
  | clrCv => exact ⟨_, rfl, .cvCleared⟩
  | clrXpom q => exact ⟨_, rfl, .xpomCleared q⟩
  | clrDyn => exact ⟨_, rfl, .dynCleared⟩
  | clrRc2Addr => exact ⟨_, rfl, .addrCleared⟩
  | _ => cases h

/-! ## What no step changes, and what the foreground leaves alone -/

/-- The parameters and the model's own port, turns and queue, which no operation writes. -/
structure SameSetting (s t : State) : Prop where
  cfg : t.cfg = s.cfg
  opPort : t.opPort = s.opPort
  turns : t.turns = s.turns
  fgQueue : t.fgQueue = s.fgQueue

theorem SameSetting.refl (s : State) : SameSetting s s := ⟨rfl, rfl, rfl, rfl⟩

theorem SameSetting.trans {s t u : State} (h : SameSetting s t) (h' : SameSetting t u) : SameSetting s u :=
  ⟨h'.cfg.trans h.cfg, h'.opPort.trans h.opPort, h'.turns.trans h.turns, h'.fgQueue.trans h.fgQueue⟩

/-- The registers of TICK are left alone, the flags and outputs the two agents share are only cleared, and the slot is
only filled (R43). -/
structure ForegroundFrame (s t : State) : Prop extends SameSetting s t where
  tx : t.tx = s.tx
  trackPol : t.out.trackPol = s.out.trackPol
  flowContinue : t.out.flowContinue = s.out.flowContinue
  time : t.time = s.time
  rc1 : t.rc1 = s.rc1
  rxFifo : t.rxFifo = s.rxFifo
  trackEn : t.out.trackEn = true → s.out.trackEn = true
  cutoutAct : t.out.cutoutAct = true → s.out.cutoutAct = true
  rxEn : t.out.rxEn = true → s.out.rxEn = true
  rc2 : t.rc2 = { s.rc2 with addrValid := t.rc2.addrValid, cvValid := t.rc2.cvValid, dynValid := t.rc2.dynValid }
  addrValid : t.rc2.addrValid = true → s.rc2.addrValid = true
  cvValid : t.rc2.cvValid = true → s.rc2.cvValid = true
  dynValid : t.rc2.dynValid = true → s.rc2.dynValid = true
  xpom : ∀ q, t.xpomAt q = { s.xpomAt q with valid := (t.xpomAt q).valid }
  buf : t.buf = s.buf ∨ (s.buf.bufLen = 0 ∧ t.buf.bufLen ≠ 0)
  stat : Memory.wf StatEntry.zero s.stat → ∀ k, t.statAt k = StatEntry.zero ∨
    t.statAt k = { s.statAt k with lastCmdMs := (t.statAt k).lastCmdMs, lastRspMs := (t.statAt k).lastRspMs }

theorem ForegroundFrame.refl (s : State) : ForegroundFrame s s where
  toSameSetting := .refl s
  tx := rfl
  trackPol := rfl
  flowContinue := rfl
  time := rfl
  rc1 := rfl
  rxFifo := rfl
  trackEn := id
  cutoutAct := id
  rxEn := id
  rc2 := rfl
  addrValid := id
  cvValid := id
  dynValid := id
  xpom := fun _ => rfl
  buf := .inl rfl
  stat := fun _ _ => .inr rfl

theorem fillSlot_bufLen_ne_zero (idx : BitVec 8) {a : BitVec 16} {payload : List Byte}
    (hlegal : submitRefused a payload = false) (s : State) :
    (fillSlot idx (assemble a payload) s).buf.bufLen ≠ 0 := by
  obtain ⟨hmin, hmax⟩ := submitRefused_eq_false_iff.mp hlegal
  have hlen := fillSlot_bufLen_toNat idx hmax s
  intro hzero
  rw [hzero] at hlen
  have hnone : 0 = (assemble a payload).length := hlen
  omega

/-- A slot that differs in its flag only, told by its own flag. -/
theorem XpomSlot.eq_with_valid {x y : XpomSlot} {b : Bool} (h : y = { x with valid := b }) :
    y = { x with valid := y.valid } := by
  rw [h]

/-- What BOOSTER_OFF leaves of an entry: its counters. -/
theorem StatEntry.below_clearTimes_counters (n k : Nat) (e : StatEntry) :
    Memory.below n StatEntry.clearTimes k e =
      { e with
        lastCmdMs := (Memory.below n StatEntry.clearTimes k e).lastCmdMs
        lastRspMs := (Memory.below n StatEntry.clearTimes k e).lastRspMs } := by
  unfold Memory.below
  split <;> rfl

/-- The frame of the fill, whatever tables `noteAddress` leaves. -/
theorem filled_frame {s : State} {idx : BitVec 8} {a : BitVec 16} {payload : List Byte}
    (hlegal : submitRefused a payload = false) (hempty : s.buf.bufLen = 0) :
    ForegroundFrame s (respond .done (fillSlot idx (assemble a payload) (noteAddress idx a s))) := by
  have hstat (hw : Memory.wf StatEntry.zero s.stat) (k : BitVec 8) :
      (noteAddress idx a s).statAt k = StatEntry.zero ∨ (noteAddress idx a s).statAt k = s.statAt k := by
    rw [statAt_noteAddress hw]
    split
    · exact .inl rfl
    · exact .inr rfl
  obtain ⟨st, la, hnote⟩ := noteAddress_writes idx a s
  rw [hnote] at hstat ⊢
  refine { ForegroundFrame.refl s with
    buf := .inr ⟨hempty, fillSlot_bufLen_ne_zero idx hlegal _⟩, stat := fun hw k => (hstat hw k).imp id fun h => ?_ }
  have hkept :
      (respond .done (fillSlot idx (assemble a payload) ((s.setStat st).setLocoAddr la))).statAt k = s.statAt k := h
  rw [hkept]

theorem ForegroundEffect.frame {s t : State} (h : ForegroundEffect s t) : ForegroundFrame s t := by
  have same := ForegroundFrame.refl s
  cases h with
  | held => exact same
  | answered r => exact { same with }
  | refused f => exact { same with }
  | modeSet m => exact { same with }
  | inhibitSet v => exact { same with }
  | poweredOn => exact { same with xpom := fun q => XpomSlot.eq_with_valid (xpomAt_mapSlots _ s q) }
  | poweredOff =>
    refine { same with
      trackEn := nofun, cutoutAct := nofun, rxEn := nofun, stat := fun hw k => .inr ?_
      xpom := fun q => XpomSlot.eq_with_valid (xpomAt_boosterOff s q) }
    have hstat : (respond .done (boosterOff s)).statAt k = _ := statAt_boosterOff hw k
    rw [hstat]
    exact StatEntry.below_clearTimes_counters _ _ _
  | cvCleared => exact { same with rc2 := rfl, cvValid := nofun }
  | xpomCleared q =>
    refine { same with xpom := fun p => ?_ }
    have hslot := xpomAt_setXpomAt s q p { s.xpomAt q with valid := false }
    rw [xpomAt_respond, hslot]
    split
    case isTrue hqp => rw [hqp]
    case isFalse => rfl
  | dynCleared => exact { same with rc2 := rfl, dynValid := nofun }
  | addrCleared => exact { same with rc2 := rfl, addrValid := nofun }
  | filled idx a payload hlegal hempty => exact filled_frame hlegal hempty

/-- Settles O57: an operation of the port has one of the effects (`exec_foreground`), and each effect has the frame. -/
theorem foregroundWritesOnlyWhatItOwns : Obligations.ForegroundWritesOnlyWhatItOwns := by
  unfold Obligations.ForegroundWritesOnlyWhatItOwns
  intro i s t hport hw hexec
  obtain ⟨u, hu, heffect⟩ := exec_foreground hport s
  obtain rfl := Host.Outcome.next.inj (hexec.symm.trans hu)
  have hframe := heffect.frame
  exact ⟨hframe.tx, hframe.trackPol, hframe.flowContinue, hframe.time, hframe.rc1, hframe.rxFifo, hframe.cfg,
    hframe.trackEn, hframe.cutoutAct, hframe.rxEn, hframe.rc2, hframe.addrValid, hframe.cvValid, hframe.dynValid,
    hframe.xpom, hframe.buf, hframe.stat hw⟩

end Sys2Proof.Machine
end

section
/-! PROOFS. The statistics of a loco index (43_railcom R190 to R195): what each update makes of its entry, and that it
writes nothing else. -/

namespace Sys2Proof.Machine

/-! ## One rule for the five updates -/

/-- An update is felt at its own index only, and only where that index has an entry (20_memory R64). -/
theorem statAt_updStat_eq {s : State} (hw : Memory.wf StatEntry.zero s.stat) (idx k : BitVec 8)
    (f : StatEntry → StatEntry) :
    (s.updStat idx f).statAt k = if k = idx ∧ idx.toNat < s.cfg.nLoco then f (s.statAt k) else s.statAt k := by
  by_cases hk : k = idx
  · subst hk
    by_cases hslot : k.toNat < s.cfg.nLoco
    · rw [if_pos ⟨rfl, hslot⟩, statAt_updStat _ _ _ (hasSlot_eq_true_iff.mpr hslot) hw]
    · have hnone := hasSlot_eq_false_iff.mpr (Nat.le_of_not_lt hslot)
      rw [if_neg fun h => hslot h.2, State.updStat, hnone, if_neg Bool.false_ne_true]
  · rw [if_neg fun h => hk h.1, statAt_updStat_other _ _ _ _ hk]

theorem statAt_updStat_slot {s : State} (hw : Memory.wf StatEntry.zero s.stat) {idx : BitVec 8}
    (hslot : idx.toNat < s.cfg.nLoco) (f : StatEntry → StatEntry) : (s.updStat idx f).statAt idx = f (s.statAt idx) := by
  rw [statAt_updStat_eq hw, if_pos ⟨rfl, hslot⟩]

theorem updStat_of_no_slot {s : State} {idx : BitVec 8} (h : s.cfg.nLoco ≤ idx.toNat) (f : StatEntry → StatEntry) :
    s.updStat idx f = s := by
  rw [State.updStat, hasSlot_eq_false_iff.mpr h, if_neg Bool.false_ne_true]

theorem updStat_writes_stat (s : State) (idx : BitVec 8) (f : StatEntry → StatEntry) :
    s.updStat idx f = { s with stat := (s.updStat idx f).stat } := by
  rw [updStat_eq, State.setStat_stat, State.setStat]

/-- Settles O42: both are updates, so the rules of `updStat` say all of it. -/
theorem statTouchAndResetChangeTheirEntryOnly : Obligations.StatTouchAndResetChangeTheirEntryOnly := by
  unfold Obligations.StatTouchAndResetChangeTheirEntryOnly
  exact fun s idx k hw => ⟨updStat_writes_stat s idx _, updStat_writes_stat s idx _, statAt_updStat_eq hw idx k _,
    statAt_updStat_eq hw idx k _, fun hnone => ⟨updStat_of_no_slot hnone _, updStat_of_no_slot hnone _⟩⟩

/-! ## Entries: the active slot is one of two (R190, R191, R193) -/

section Entry
variable {e : StatEntry} (ms : BitVec 32)

theorem StatEntry.command_slot0 (h : e.active = false) : e.command ms = { e with cmd0 := e.cmd0 + 1, lastCmdMs := ms } := by
  simp [StatEntry.command, StatEntry.setCmdCnt, StatEntry.cmdCnt, h]

theorem StatEntry.command_slot1 (h : e.active = true) : e.command ms = { e with cmd1 := e.cmd1 + 1, lastCmdMs := ms } := by
  simp [StatEntry.command, StatEntry.setCmdCnt, StatEntry.cmdCnt, h]

theorem StatEntry.response_slot0 (h : e.active = false) :
    e.response ms = { e with rsp0 := e.rsp0 + 1, lastRspMs := ms } := by
  simp [StatEntry.response, StatEntry.setRspCnt, StatEntry.rspCnt, h]

theorem StatEntry.response_slot1 (h : e.active = true) :
    e.response ms = { e with rsp1 := e.rsp1 + 1, lastRspMs := ms } := by
  simp [StatEntry.response, StatEntry.setRspCnt, StatEntry.rspCnt, h]

theorem StatEntry.rotate_full_slot0 (h : e.active = false) (hfull : 50 ≤ e.cmd0.toNat) :
    e.rotate = { e with active := true, cmd1 := 0, rsp1 := 0 } := by
  simp [StatEntry.rotate, window, StatEntry.cmdCnt, StatEntry.setCmdCnt, StatEntry.setRspCnt, h, hfull]

theorem StatEntry.rotate_full_slot1 (h : e.active = true) (hfull : 50 ≤ e.cmd1.toNat) :
    e.rotate = { e with active := false, cmd0 := 0, rsp0 := 0 } := by
  simp [StatEntry.rotate, window, StatEntry.cmdCnt, StatEntry.setCmdCnt, StatEntry.setRspCnt, h, hfull]

theorem StatEntry.rotate_filling (h : (e.cmdCnt e.active).toNat < 50) : e.rotate = e :=
  if_neg (Nat.not_le.mpr h)

theorem StatEntry.cmdCnt_slot0 (h : e.active = false) : e.cmdCnt e.active = e.cmd0 := by
  rw [StatEntry.cmdCnt, h, if_neg Bool.false_ne_true]

theorem StatEntry.cmdCnt_slot1 (h : e.active = true) : e.cmdCnt e.active = e.cmd1 := by
  rw [StatEntry.cmdCnt, h, if_pos rfl]

end Entry

/-- Settles O43: the rules of `updStat` with the entry lemmas of the active slot. -/
theorem statCommandResponseAndRotateCount : Obligations.StatCommandResponseAndRotateCount := by
  unfold Obligations.StatCommandResponseAndRotateCount
  intro s idx k hw
  have command (h : idx.toNat < s.cfg.nLoco) : (statCommand idx s).statAt idx = _ := statAt_updStat_slot hw h _
  have response (h : idx.toNat < s.cfg.nLoco) : (statResponse idx s).statAt idx = _ := statAt_updStat_slot hw h _
  have rotate (h : idx.toNat < s.cfg.nLoco) : (statRotate idx s).statAt idx = _ := statAt_updStat_slot hw h _
  refine ⟨fun hslot => ⟨fun hactive => ?slot0, fun hactive => ?slot1⟩,
    fun hnone => ⟨updStat_of_no_slot hnone _, updStat_of_no_slot hnone _, updStat_of_no_slot hnone _⟩,
    fun hk => ⟨statAt_updStat_other s idx k _ hk, statAt_updStat_other s idx k _ hk, statAt_updStat_other s idx k _ hk⟩,
    updStat_writes_stat s idx _, updStat_writes_stat s idx _, updStat_writes_stat s idx _⟩
  case slot0 =>
    rw [command hslot, response hslot, rotate hslot]
    exact ⟨StatEntry.command_slot0 _ hactive, StatEntry.response_slot0 _ hactive, StatEntry.rotate_full_slot0 hactive,
      fun h => StatEntry.rotate_filling (StatEntry.cmdCnt_slot0 hactive ▸ h)⟩
  case slot1 =>
    rw [command hslot, response hslot, rotate hslot]
    exact ⟨StatEntry.command_slot1 _ hactive, StatEntry.response_slot1 _ hactive, StatEntry.rotate_full_slot1 hactive,
      fun h => StatEntry.rotate_filling (StatEntry.cmdCnt_slot1 hactive ▸ h)⟩

end Sys2Proof.Machine
end

section
/-! PROOFS. The RailCom channel decoder (43_railcom R170 to R187): what each datagram row does, that a read runs the row
its symbols encode, and what a read without a datagram does. -/

namespace Sys2Proof.Machine

/-! ## Datagram fields as numbers (30_encoding R84 to R89) -/

theorem toNat_append_eq {m n : Nat} (x : BitVec m) (y : BitVec n) : (x ++ y).toNat = x.toNat * 2 ^ n + y.toNat := by
  rw [BitVec.toNat_append, ← Nat.shiftLeft_add_eq_or_of_lt y.isLt, Nat.shiftLeft_eq]

theorem combineAddr_eq (hi lo : BitVec 8) : combineAddr hi lo = BitVec.ofNat 14 (hi.toNat % 64 * 256 + lo.toNat) := by
  have := lo.isLt
  apply BitVec.eq_of_toNat_eq
  rw [combineAddr, toNat_append_eq, BitVec.extractLsb'_toNat, BitVec.toNat_ofNat]
  omega

theorem notData_eq_false_iff {d : BitVec 8} : notData d = false ↔ d.toNat < 64 := by
  rw [notData, decide_eq_false_iff_not, Nat.not_le]

theorem isDataByte_eq_true_iff {b : Byte} : isDataByte b = true ↔ notData (hamDec b) = false := by
  rw [isDataByte, Bool.not_eq_true']

section Datagram
variable {d0 d1 d2 d3 d4 d5 : BitVec 8}

theorem dgId_toNat (h : d0.toNat < 64) : (dgId d0).toNat = d0.toNat / 4 := by
  rw [dgId, BitVec.extractLsb'_toNat, Nat.shiftRight_eq_div_pow]
  omega

theorem dg12Val_toNat : (dg12Val d0 d1).toNat = d0.toNat % 4 * 64 + d1.toNat % 64 := by
  rw [dg12Val, toNat_append_eq, BitVec.extractLsb'_toNat, BitVec.extractLsb'_toNat]
  omega

theorem dg36B1_toNat : (dg36B1 d2 d3).toNat = d2.toNat % 64 * 4 + d3.toNat / 16 % 4 := by
  rw [dg36B1, toNat_append_eq, BitVec.extractLsb'_toNat, BitVec.extractLsb'_toNat]
  omega

theorem dg36B2_toNat : (dg36B2 d3 d4).toNat = d3.toNat % 16 * 16 + d4.toNat / 4 % 16 := by
  rw [dg36B2, toNat_append_eq, BitVec.extractLsb'_toNat, BitVec.extractLsb'_toNat]
  omega

theorem dg36B3_toNat : (dg36B3 d4 d5).toNat = d4.toNat % 4 * 64 + d5.toNat % 64 := by
  rw [dg36B3, toNat_append_eq, BitVec.extractLsb'_toNat, BitVec.extractLsb'_toNat]
  omega

theorem datagram12_lt (h0 : d0.toNat < 64) (h1 : d1.toNat < 64) : datagram12 d0 d1 < 2 ^ 12 := by
  unfold datagram12
  omega

theorem datagram12_div (h0 : d0.toNat < 64) (h1 : d1.toNat < 64) : datagram12 d0 d1 / 2 ^ 8 = (dgId d0).toNat := by
  rw [dgId_toNat h0, datagram12]
  omega

theorem datagram12_val (h1 : d1.toNat < 64) : BitVec.ofNat 8 (datagram12 d0 d1) = dg12Val d0 d1 := by
  apply BitVec.eq_of_toNat_eq
  rw [BitVec.toNat_ofNat, dg12Val_toNat, datagram12]
  omega

theorem datagram18_lt (h0 : d0.toNat < 64) (h1 : d1.toNat < 64) (h2 : d2.toNat < 64) : datagram18 d0 d1 d2 < 2 ^ 18 := by
  unfold datagram18 datagram12
  omega

theorem datagram18_div (h0 : d0.toNat < 64) (h1 : d1.toNat < 64) (h2 : d2.toNat < 64) :
    datagram18 d0 d1 d2 / 2 ^ 14 = (dgId d0).toNat := by
  rw [dgId_toNat h0, datagram18, datagram12]
  omega

theorem datagram18_val (h1 : d1.toNat < 64) (h2 : d2.toNat < 64) :
    BitVec.ofNat 8 (datagram18 d0 d1 d2 / 2 ^ 6) = dg12Val d0 d1 := by
  apply BitVec.eq_of_toNat_eq
  rw [BitVec.toNat_ofNat, dg12Val_toNat, datagram18, datagram12]
  omega

theorem datagram18_sub : BitVec.ofNat 6 (datagram18 d0 d1 d2) = dg18Sub d2 := by
  apply BitVec.eq_of_toNat_eq
  rw [BitVec.toNat_ofNat, dg18Sub, BitVec.extractLsb'_toNat, Nat.shiftRight_zero, datagram18]
  omega

/-- The fields of six data symbols (R88). -/
theorem datagram36_fields (h0 : d0.toNat < 64) (h1 : d1.toNat < 64) (h2 : d2.toNat < 64) (h3 : d3.toNat < 64)
    (h4 : d4.toNat < 64) (h5 : d5.toNat < 64) :
    datagram36 d0 d1 d2 d3 d4 d5 / 2 ^ 32 = (dgId d0).toNat ∧
    BitVec.ofNat 8 (datagram36 d0 d1 d2 d3 d4 d5 / 2 ^ 24) = dg12Val d0 d1 ∧
    BitVec.ofNat 8 (datagram36 d0 d1 d2 d3 d4 d5 / 2 ^ 16) = dg36B1 d2 d3 ∧
    BitVec.ofNat 8 (datagram36 d0 d1 d2 d3 d4 d5 / 2 ^ 8) = dg36B2 d3 d4 ∧
    BitVec.ofNat 8 (datagram36 d0 d1 d2 d3 d4 d5) = dg36B3 d4 d5 := by
  simp only [← BitVec.toNat_inj, BitVec.toNat_ofNat, dg12Val_toNat, dg36B1_toNat, dg36B2_toNat, dg36B3_toNat,
    dgId_toNat h0, datagram36, datagram18, datagram12]
  omega

end Datagram

/-! ## Channel 1 (R170, R171) -/

theorem exec_ch1dec (raw : List Byte) (s : State) : exec (.ch1dec raw) s = .next (ch1Decode raw s) := rfl

theorem exec_rc1AdrHigh (val : BitVec 8) (s : State) : exec (.rc1AdrHigh val) s = .next (rc1AdrHigh val s) := rfl

theorem exec_rc1AdrLow (val : BitVec 8) (s : State) : exec (.rc1AdrLow val) s = .next (rc1AdrLow val s) := rfl

/-- Settles O34: the record after a half is `Rc1.combined`, which looks at the flag of the other half. -/
theorem channel1AddressHalvesCombine : Obligations.Channel1AddressHalvesCombine := by
  unfold Obligations.Channel1AddressHalvesCombine
  intro val s
  rw [exec_rc1AdrHigh, exec_rc1AdrLow, rc1AdrHigh_eq, rc1AdrLow_eq]
  constructor
  · cases hlo : s.rc1.loValid <;> simp [Rc1.combined, hlo, combineAddr_eq, State.setRc1]
  · cases hhi : s.rc1.hiValid <;> simp [Rc1.combined, hhi, combineAddr_eq, State.setRc1]

theorem ch1Decode_badLength {raw : List Byte} (h : raw.length ≠ 2) (s : State) :
    ch1Decode raw s = raise (.badLength .ch1 raw.length) s := by
  unfold ch1Decode
  split
  case h_1 => exact absurd rfl h
  case h_2 => rfl

theorem ch1Pair_badSymbol {d0 d1 : BitVec 8} (h : (notData d0 || notData d1) = true) (s : State) :
    ch1Pair d0 d1 s = raise (.badSymbol .ch1) s :=
  if_pos h

theorem ch1Pair_data {d0 d1 : BitVec 8} (h : (notData d0 || notData d1) = false) (s : State) :
    ch1Pair d0 d1 s =
      if dgId d0 = 1 then rc1AdrHigh (dg12Val d0 d1) s else if dgId d0 = 2 then rc1AdrLow (dg12Val d0 d1) s else s := by
  rw [ch1Pair, h, if_neg Bool.false_ne_true]

theorem dgId_eq_iff {d : BitVec 8} {n : BitVec 4} : dgId d = n ↔ (dgId d).toNat = n.toNat :=
  BitVec.toNat_inj.symm

theorem isDataByte_and {r0 r1 : Byte} :
    (isDataByte r0 && isDataByte r1) = !(notData (hamDec r0) || notData (hamDec r1)) := by
  rw [isDataByte, isDataByte, Bool.not_or]

/-- Two data symbols run the row their datagram decodes to: decoder and CH1DEC look at the same identifier. -/
theorem ch1Pair_runs_row {d0 d1 : BitVec 8} (h : (notData d0 || notData d1) = false) {i : Instr}
    (hrow : decode (.word .dg12Ch1 (datagram12 d0 d1)) = .ok i) (s : State) : exec i s = .next (ch1Pair d0 d1 s) := by
  obtain ⟨h0, h1⟩ := Bool.or_eq_false_iff.mp h
  rw [notData_eq_false_iff] at h0 h1
  rw [decode_dg12Ch1 (datagram12_lt h0 h1), decodeDg12Ch1, datagram12_div h0 h1, datagram12_val h1] at hrow
  rw [ch1Pair_data h]
  split at hrow
  case h_1 hid =>
    cases hrow
    rw [if_pos (dgId_eq_iff.mpr hid), exec_rc1AdrHigh]
  case h_2 hid =>
    cases hrow
    have hne : ¬ dgId d0 = 1 := fun h => by rw [dgId_eq_iff.mp h] at hid; cases hid
    rw [if_neg hne, if_pos (dgId_eq_iff.mpr hid), exec_rc1AdrLow]
  case h_3 => cases hrow

/-- Settles O35: a pair of data symbols runs its row (`ch1Pair_runs_row`), every other read is one of the discards. -/
theorem channel1DecodeRunsItsDatagram : Obligations.Channel1DecodeRunsItsDatagram := by
  unfold Obligations.Channel1DecodeRunsItsDatagram
  intro raw s
  refine ⟨fun hlen => ?length, ?pair⟩
  case length => rw [exec_ch1dec, ch1Decode_badLength hlen, raise_eq, State.setRaised]
  case pair =>
    rintro r0 r1 rfl
    rw [isDataByte_and, Bool.not_eq_false', Bool.not_eq_true']
    refine ⟨fun hbad => ?symbol, fun hdata => ⟨fun i hrow => ⟨_, ch1Pair_runs_row hdata hrow s, exec_ch1dec _ s⟩, ?ignored⟩⟩
    case symbol => rw [exec_ch1dec, ch1Decode, ch1Pair_badSymbol hbad, raise_eq, State.setRaised]
    case ignored =>
      intro h1 h2
      obtain ⟨hd0, hd1⟩ := Bool.or_eq_false_iff.mp hdata
      rw [notData_eq_false_iff] at hd0 hd1
      rw [datagram12_div hd0 hd1] at h1 h2
      rw [exec_ch1dec, ch1Decode, ch1Pair_data hdata, if_neg (h1 ∘ dgId_eq_iff.mp), if_neg (h2 ∘ dgId_eq_iff.mp)]

/-! ## Channel 2: the rows (R180 to R186) -/

/-- What an operation of channel 2 does for the loco index it counts for. An update that counts does not look at the
transmitter. -/
structure Ch2Row (i : Instr) (f : BitVec 8 → State → State) : Prop where
  exec_eq : ∀ s, exec i s = .next (f s.tx.txLocoIdx s)
  setTx : ∀ idx s t, f idx (s.setTx t) = (f idx s).setTx t

theorem updStat_setTx (s : State) (idx : BitVec 8) (f : StatEntry → StatEntry) (t : Tx) :
    (s.setTx t).updStat idx f = (s.updStat idx f).setTx t := by
  rw [updStat_eq, updStat_eq]
  rfl

theorem statCommand_setTx (idx : BitVec 8) (s : State) (t : Tx) :
    statCommand idx (s.setTx t) = (statCommand idx s).setTx t :=
  updStat_setTx s idx _ t

theorem statRotate_setTx (idx : BitVec 8) (s : State) (t : Tx) :
    statRotate idx (s.setTx t) = (statRotate idx s).setTx t :=
  updStat_setTx s idx _ t

theorem statResponse_setTx (idx : BitVec 8) (s : State) (t : Tx) :
    statResponse idx (s.setTx t) = (statResponse idx s).setTx t :=
  updStat_setTx s idx _ t

theorem statResponse_record_setTx (idx : BitVec 8) (s : State) (t : Tx) (r : Rc2) :
    statResponse idx ((s.setTx t).setRc2 r) = (statResponse idx (s.setRc2 r)).setTx t :=
  statResponse_setTx idx (s.setRc2 r) t

theorem rc2AdrHigh_eq (val idx : BitVec 8) (s : State) : rc2AdrHigh val idx s =
    statResponse idx (s.setRc2 ({ s.rc2 with adrHi := val, hiValid := true } : Rc2).combined) := by
  rw [rc2AdrHigh, combine2_eq, State.setRc2_twice, State.setRc2_rc2]

theorem rc2AdrLow_eq (val idx : BitVec 8) (s : State) : rc2AdrLow val idx s =
    statResponse idx (s.setRc2 ({ s.rc2 with adrLo := val, loValid := true } : Rc2).combined) := by
  rw [rc2AdrLow, combine2_eq, State.setRc2_twice, State.setRc2_rc2]

namespace Ch2Row

theorem pom (val : BitVec 8) : Ch2Row (.rc2Pom val) (rc2Pom val) :=
  ⟨fun _ => rfl, fun _ _ _ => statResponse_record_setTx _ _ _ _⟩

theorem adrHigh (val : BitVec 8) : Ch2Row (.rc2AdrHigh val) (rc2AdrHigh val) := by
  refine ⟨fun _ => rfl, fun idx s t => ?_⟩
  rw [rc2AdrHigh_eq, rc2AdrHigh_eq]
  exact statResponse_record_setTx _ _ _ _

theorem adrLow (val : BitVec 8) : Ch2Row (.rc2AdrLow val) (rc2AdrLow val) := by
  refine ⟨fun _ => rfl, fun idx s t => ?_⟩
  rw [rc2AdrLow_eq, rc2AdrLow_eq]
  exact statResponse_record_setTx _ _ _ _

theorem dyn (val : BitVec 8) (sub : BitVec 6) : Ch2Row (.rc2Dyn val sub) (rc2Dyn val sub) :=
  ⟨fun _ => rfl, fun _ _ _ => statResponse_record_setTx _ _ _ _⟩

theorem dynNosub (val : BitVec 8) : Ch2Row (.rc2DynNosub val) (rc2DynNosub val) :=
  ⟨fun _ => rfl, fun _ _ _ => statResponse_record_setTx _ _ _ _⟩

theorem xpom_setTx (q : BitVec 2) (b0 b1 b2 b3 : Byte) (idx : BitVec 8) (s : State) (t : Tx) :
    rc2Xpom q b0 b1 b2 b3 idx (s.setTx t) = (rc2Xpom q b0 b1 b2 b3 idx s).setTx t := by
  have hslot : (s.setTx t).xpomAt q = s.xpomAt q := rfl
  rw [rc2Xpom, rc2Xpom, hslot]
  split
  · exact statResponse_setTx idx s t
  · exact statResponse_setTx idx (s.setXpomAt q ⟨b0, b1, b2, b3, true⟩) t

theorem unknown_setTx (id : Nat) (idx : BitVec 8) (s : State) (t : Tx) :
    rc2Unknown id idx (s.setTx t) = (rc2Unknown id idx s).setTx t :=
  updStat_setTx (raise (.unknownId id) s) idx _ t

end Ch2Row

/-- Settles O36: each row is its response on the record with the values written out. -/
theorem valueDatagramsStoreAndCountAResponse : Obligations.ValueDatagramsStoreAndCountAResponse := by
  unfold Obligations.ValueDatagramsStoreAndCountAResponse
  exact fun val sub s => ⟨(Ch2Row.pom val).exec_eq s, (Ch2Row.dyn val sub).exec_eq s, (Ch2Row.dynNosub val).exec_eq s⟩

/-- Settles O37: the record after a half is `Rc2.combined`, which looks at the flag of the other half. -/
theorem channel2AddressHalvesCombine : Obligations.Channel2AddressHalvesCombine := by
  unfold Obligations.Channel2AddressHalvesCombine
  intro val s
  rw [(Ch2Row.adrHigh val).exec_eq, (Ch2Row.adrLow val).exec_eq, rc2AdrHigh_eq, rc2AdrLow_eq]
  constructor
  · cases hlo : s.rc2.loValid <;> simp [Rc2.combined, hlo, combineAddr_eq, State.setRc2]
  · cases hhi : s.rc2.hiValid <;> simp [Rc2.combined, hhi, combineAddr_eq, State.setRc2]

section Xpom
variable {q : BitVec 2} {b0 b1 b2 b3 : Byte} {idx : BitVec 8} {s : State}

theorem rc2Xpom_of_taken (h : (s.xpomAt q).valid = true) : rc2Xpom q b0 b1 b2 b3 idx s = statResponse idx s := by
  rw [rc2Xpom, if_pos h]

theorem rc2Xpom_of_free (h : (s.xpomAt q).valid = false) :
    rc2Xpom q b0 b1 b2 b3 idx s = statResponse idx (s.setXpomAt q ⟨b0, b1, b2, b3, true⟩) := by
  rw [rc2Xpom, h, if_neg Bool.false_ne_true]

end Xpom

/-- Settles O38: the two cases of `rc2Xpom`, for each sequence. -/
theorem xpomReplyIsStoredOnlyInAFreeSlot : Obligations.XpomReplyIsStoredOnlyInAFreeSlot := by
  unfold Obligations.XpomReplyIsStoredOnlyInAFreeSlot
  intro b0 b1 b2 b3 s row hrow
  have reply (q : BitVec 2) (i : Instr) (hexec : exec i s = .next (rc2Xpom q b0 b1 b2 b3 s.tx.txLocoIdx s)) :
      ((s.xpomAt q).valid = true → exec i s = .next (statResponse s.tx.txLocoIdx s)) ∧
      ((s.xpomAt q).valid = false →
        exec i s = .next (statResponse s.tx.txLocoIdx (s.setXpomAt q ⟨b0, b1, b2, b3, true⟩))) :=
    ⟨fun h => by rw [hexec, rc2Xpom_of_taken h], fun h => by rw [hexec, rc2Xpom_of_free h]⟩
  simp only [List.mem_cons, List.not_mem_nil, or_false] at hrow
  obtain rfl | rfl | rfl | rfl := hrow
  · exact reply 0 _ (exec_rc2Xpom0 b0 b1 b2 b3 s)
  · exact reply 1 _ (exec_rc2Xpom1 b0 b1 b2 b3 s)
  · exact reply 2 _ (exec_rc2Xpom2 b0 b1 b2 b3 s)
  · exact reply 3 _ (exec_rc2Xpom3 b0 b1 b2 b3 s)

theorem rc2Unknown_eq (id : Nat) (idx : BitVec 8) (s : State) :
    rc2Unknown id idx s = statTouch idx { s with raised := .unknownId id :: s.raised } := rfl

/-- Settles O39: each of the eight rows is `rc2Unknown` of its identifier. -/
theorem unknownDatagramsTouchTheTimestampOnly : Obligations.UnknownDatagramsTouchTheTimestampOnly := by
  unfold Obligations.UnknownDatagramsTouchTheTimestampOnly
  intro payload s row hrow
  have hexec : exec row.2 s = .next (rc2Unknown row.1 s.tx.txLocoIdx s) := by
    simp only [List.mem_cons, List.not_mem_nil, or_false] at hrow
    obtain rfl | rfl | rfl | rfl | rfl | rfl | rfl | rfl := hrow <;> rfl
  rw [hexec, rc2Unknown_eq]

end Sys2Proof.Machine
end

section
/-! PROOFS. Channel-2 reads (43_railcom R175 to R187): a read of data symbols runs the row of its first datagram between
the command and the rotation, and every other read counts the command and a response, a timestamp or nothing. -/

namespace Sys2Proof.Machine

theorem exec_ch2dec (raw : List Byte) (idx : BitVec 8) (s : State) :
    exec (.ch2dec raw idx) s = .next (statRotate idx (ch2Body raw idx (statCommand idx s))) := rfl

/-! ## The first datagram of a read (R179, R187) -/

section First
variable {d0 d1 : BitVec 8} {rest : List (BitVec 8)} {i : Instr}

/-- A 12-bit row runs for its two symbols, whatever follows, unless a third symbol makes a DYN longer. -/
theorem ch2Row_of_dg12 (h0 : d0.toNat < 64) (h1 : d1.toNat < 64)
    (hshort : datagram12 d0 d1 / 2 ^ 8 ≠ 7 ∨ rest = []) (hrow : decode (.word .dg12Ch2 (datagram12 d0 d1)) = .ok i) :
    ∃ f, Ch2Row i f ∧ ∀ idx s, ch2Structured (d0 :: d1 :: rest) idx s = f idx s := by
  rw [datagram12_div h0 h1] at hshort
  rw [decode_dg12Ch2 (datagram12_lt h0 h1), decodeDg12Ch2, datagram12_div h0 h1, datagram12_val h1] at hrow
  split at hrow
  case h_1 hid => cases hrow; exact ⟨_, .pom _, fun idx s => by simp [ch2Structured, hid]⟩
  case h_2 hid => cases hrow; exact ⟨_, .adrHigh _, fun idx s => by simp [ch2Structured, hid]⟩
  case h_3 hid => cases hrow; exact ⟨_, .adrLow _, fun idx s => by simp [ch2Structured, hid]⟩
  case h_4 hid =>
    cases hrow
    obtain rfl := hshort.resolve_left (not_not.mpr hid)
    exact ⟨_, .dynNosub _, fun idx s => by simp [ch2Structured, hid, ch2Dyn]⟩
  case h_13 => cases hrow
  all_goals
    rename_i hid
    cases hrow
    exact ⟨_, ⟨fun _ => rfl, Ch2Row.unknown_setTx _⟩, fun idx s => by simp [ch2Structured, hid]⟩

/-- A DYN row runs for its three symbols, whatever follows (R184). -/
theorem ch2Row_of_dg18 {d2 : BitVec 8} (h0 : d0.toNat < 64) (h1 : d1.toNat < 64) (h2 : d2.toNat < 64)
    (hrow : decode (.word .dg18 (datagram18 d0 d1 d2)) = .ok i) :
    ∃ f, Ch2Row i f ∧ ∀ idx s, ch2Structured (d0 :: d1 :: d2 :: rest) idx s = f idx s := by
  rw [decode_dg18 (datagram18_lt h0 h1 h2), decodeDg18, datagram18_div h0 h1 h2, datagram18_val h1 h2,
    datagram18_sub] at hrow
  split at hrow
  case h_1 hid => cases hrow; exact ⟨_, .dyn _ _, fun idx s => by simp [ch2Structured, hid, ch2Dyn]⟩
  case h_2 => cases hrow

/-- An XPOM row runs for its six symbols (R185). -/
theorem ch2Row_of_dg36 {d2 d3 d4 d5 : BitVec 8} (h0 : d0.toNat < 64) (h1 : d1.toNat < 64) (h2 : d2.toNat < 64)
    (h3 : d3.toNat < 64) (h4 : d4.toNat < 64) (h5 : d5.toNat < 64)
    (hrow : decode (.word .dg36 (datagram36 d0 d1 d2 d3 d4 d5)) = .ok i) :
    ∃ f, Ch2Row i f ∧ ∀ idx s, ch2Structured [d0, d1, d2, d3, d4, d5] idx s = f idx s := by
  obtain ⟨hdiv, hb0, hb1, hb2, hb3⟩ := datagram36_fields h0 h1 h2 h3 h4 h5
  rw [decode_dg36 (lt_of_decode_word hrow), decodeDg36, hdiv, hb0, hb1, hb2, hb3] at hrow
  split at hrow
  case h_5 => cases hrow
  all_goals
    rename_i hid
    cases hrow
    exact ⟨_, ⟨fun _ => rfl, Ch2Row.xpom_setTx _ _ _ _ _⟩, fun idx s => by simp [ch2Structured, hid, ch2Xpom]⟩

end First

/-! ## The frame of symbols (R176 to R178) -/

theorem isInvalid_eq_true_iff {d : BitVec 8} : isInvalid d = true ↔ d = 0xFF :=
  beq_iff_eq

theorem any_isInvalid_eq_true_iff {l : List (BitVec 8)} : l.any isInvalid = true ↔ 0xFF ∈ l := by
  simp [List.any_eq_true, isInvalid_eq_true_iff]

theorem any_isInvalid_eq_false_iff {l : List (BitVec 8)} : l.any isInvalid = false ↔ 0xFF ∉ l := by
  rw [← Bool.not_eq_true, any_isInvalid_eq_true_iff]

/-- A data symbol is not INVALID. -/
theorem invalid_not_mem_of_data {l : List (BitVec 8)} (h : l.countP notData = 0) : 0xFF ∉ l := fun hmem =>
  List.countP_eq_zero.mp h 0xFF hmem rfl

theorem toNat_lt_of_data {l : List (BitVec 8)} (h : l.countP notData = 0) {d : BitVec 8} (hd : d ∈ l) : d.toNat < 64 :=
  notData_eq_false_iff.mp (Bool.eq_false_iff.mpr (List.countP_eq_zero.mp h d hd))

section Body
variable {raw : List Byte} {idx : BitVec 8} {s : State}

theorem ch2Body_empty (h : raw.length = 0) : ch2Body raw idx s = s :=
  if_pos h

theorem ch2Body_long (h : 6 < raw.length) : ch2Body raw idx s = raise (.badLength .ch2 raw.length) s := by
  rw [ch2Body, if_neg (by omega), if_pos (show rc2Max < raw.length from h)]

theorem ch2Body_symbols (hlen : 1 ≤ raw.length) (hlen' : raw.length ≤ 6) :
    ch2Body raw idx s = ch2Symbols (raw.map hamDec) idx s := by
  rw [ch2Body, if_neg (by omega), if_neg (show ¬ rc2Max < raw.length from Nat.not_lt.mpr hlen')]

end Body

section Symbols
variable {d : List (BitVec 8)} {idx : BitVec 8} {s : State}

theorem ch2Symbols_invalid (h : 0xFF ∈ d) : ch2Symbols d idx s = raise (.badSymbol .ch2) s :=
  if_pos (any_isInvalid_eq_true_iff.mpr h)

theorem ch2Symbols_valid (h : 0xFF ∉ d) :
    ch2Symbols d idx s =
      if d.countP notData = 1 then statResponse idx s
      else if 2 ≤ d.countP notData then statTouch idx s
      else ch2Structured d idx s := by
  rw [ch2Symbols, any_isInvalid_eq_false_iff.mpr h, if_neg Bool.false_ne_true]

theorem ch2Symbols_data (h : d.countP notData = 0) : ch2Symbols d idx s = ch2Structured d idx s := by
  rw [ch2Symbols_valid (invalid_not_mem_of_data h), h, if_neg (by decide), if_neg (by decide)]

/-- An XPOM identifier without six symbols is a malformed length (R185). -/
theorem ch2Xpom_malformed (h : d.length ≠ 6) (q : BitVec 2) : ch2Xpom d q idx s = raise (.badLength .ch2 d.length) s := by
  unfold ch2Xpom
  split
  case h_1 => exact absurd rfl h
  case h_2 => rfl

theorem ch2Structured_lone (d0 : BitVec 8) : ch2Structured [d0] idx s = raise (.badLength .ch2 1) s := rfl

theorem ch2Structured_xpom_malformed {d0 d1 : BitVec 8} {rest : List (BitVec 8)} (hlen : (d0 :: d1 :: rest).length ≠ 6)
    (h8 : 8 ≤ (dgId d0).toNat) (h11 : (dgId d0).toNat ≤ 11) :
    ch2Structured (d0 :: d1 :: rest) idx s = raise (.badLength .ch2 (d0 :: d1 :: rest).length) s := by
  have hid : (dgId d0).toNat = 8 ∨ (dgId d0).toNat = 9 ∨ (dgId d0).toNat = 10 ∨ (dgId d0).toNat = 11 := by omega
  obtain hid | hid | hid | hid := hid
  all_goals
    rw [ch2Structured, hid]
    exact ch2Xpom_malformed hlen _

end Symbols

@[simp] theorem updStat_tx (s : State) (idx : BitVec 8) (f : StatEntry → StatEntry) : (s.updStat idx f).tx = s.tx := by
  rw [updStat_eq, State.setStat_tx]

/-- A read of data symbols whose structured decode is a row: the row runs between the command and the rotation. -/
theorem ch2dec_runs_row {raw : List Byte} {idx : BitVec 8} {i : Instr} {f : BitVec 8 → State → State} (hrow : Ch2Row i f)
    (hlen : 1 ≤ raw.length) (hlen' : raw.length ≤ 6) (hdata : (raw.map hamDec).countP notData = 0)
    (hstructured : ∀ idx s, ch2Structured (raw.map hamDec) idx s = f idx s) (s : State) :
    ∃ u, exec i (statCommand idx { s with tx.txLocoIdx := idx }) = .next u ∧
      exec (.ch2dec raw idx) s = .next { statRotate idx u with tx := s.tx } := by
  let counted := statCommand idx s
  have hcommand : statCommand idx { s with tx.txLocoIdx := idx } = counted.setTx { s.tx with txLocoIdx := idx } :=
    statCommand_setTx idx s _
  have htx : f idx counted = (f idx counted).setTx s.tx := by
    have hcounted : counted.tx = s.tx := updStat_tx s idx _
    rw [← hrow.setTx, ← hcounted, State.setTx_same]
  refine ⟨f idx (counted.setTx { s.tx with txLocoIdx := idx }), ?row, ?read⟩
  case row => rw [hcommand, hrow.exec_eq, State.setTx_tx]
  case read =>
    calc exec (.ch2dec raw idx) s
        = .next (statRotate idx (f idx counted)) := by
          rw [exec_ch2dec, ch2Body_symbols hlen hlen', ch2Symbols_data hdata, hstructured]
      _ = .next ((statRotate idx (f idx counted)).setTx s.tx) := by rw [← statRotate_setTx, ← htx]
      _ = .next { statRotate idx (f idx (counted.setTx { s.tx with txLocoIdx := idx })) with tx := s.tx } := by
          rw [hrow.setTx, statRotate_setTx]
          rfl

/-- Settles O40: in each of the three forms the row decoded is the one the structured decode runs, and
`ch2dec_runs_row` puts it between the command and the rotation. -/
theorem channel2DecodeRunsItsDatagram : Obligations.Channel2DecodeRunsItsDatagram := by
  unfold Obligations.Channel2DecodeRunsItsDatagram
  intro raw idx s i hlen' hall hform
  have hdata : (raw.map hamDec).countP notData = 0 := by
    rw [List.countP_map, List.countP_eq_zero]
    exact fun b hb => Bool.eq_false_iff.mp (isDataByte_eq_true_iff.mp (List.all_eq_true.mp hall b hb))
  have hsymbol {d : BitVec 8} (hd : d ∈ raw.map hamDec) : d.toNat < 64 := toNat_lt_of_data hdata hd
  suffices h : 1 ≤ raw.length ∧ ∃ f, Ch2Row i f ∧ ∀ idx s, ch2Structured (raw.map hamDec) idx s = f idx s by
    obtain ⟨hlen, f, hrow, hstructured⟩ := h
    exact ch2dec_runs_row hrow hlen hlen' hdata hstructured s
  rw [← List.length_map hamDec]
  obtain ⟨d0, d1, rest, hraw, hshort, hrow⟩ | ⟨d0, d1, d2, rest, hraw, hrow⟩ | ⟨d0, d1, d2, d3, d4, d5, hraw, hrow⟩ := hform
  all_goals rw [hraw] at hsymbol ⊢
  · exact ⟨by simp, ch2Row_of_dg12 (hsymbol (by simp)) (hsymbol (by simp)) hshort hrow⟩
  · exact ⟨by simp, ch2Row_of_dg18 (hsymbol (by simp)) (hsymbol (by simp)) (hsymbol (by simp)) hrow⟩
  · exact ⟨by simp, ch2Row_of_dg36 (hsymbol (by simp)) (hsymbol (by simp)) (hsymbol (by simp)) (hsymbol (by simp))
      (hsymbol (by simp)) (hsymbol (by simp)) hrow⟩

/-! ## Reads without a datagram -/

/-- Settles O41: CH2DEC is the command, the body and the rotation, and the body's cases are the lemmas above. -/
theorem channel2ReadsWithoutADatagram : Obligations.Channel2ReadsWithoutADatagram := by
  unfold Obligations.Channel2ReadsWithoutADatagram
  intro raw idx s
  dsimp only
  rw [exec_ch2dec]
  have hmap : (raw.map hamDec).length = raw.length := List.length_map _
  refine ⟨fun hlen => ?empty, fun hlen => ?long, fun hlen hlen' hbad => ?invalid, fun hlen' hvalid => ⟨fun hone => ?one,
    fun htwo => ?two, fun hlen hdata => ?lone, fun d0 d1 rest hraw hdata hlen h8 h11 => ?xpom⟩⟩
  case empty => rw [ch2Body_empty hlen]
  case long => rw [ch2Body_long hlen, raise_eq, State.setRaised]
  case invalid => rw [ch2Body_symbols hlen hlen', ch2Symbols_invalid hbad, raise_eq, State.setRaised]
  case one =>
    have hlen : 1 ≤ raw.length := hmap ▸ hone ▸ List.countP_le_length
    rw [ch2Body_symbols hlen hlen', ch2Symbols_valid hvalid, if_pos hone]
  case two =>
    have hlen : 2 ≤ raw.length := hmap ▸ htwo.trans List.countP_le_length
    rw [ch2Body_symbols (Nat.le_of_succ_le hlen) hlen', ch2Symbols_valid hvalid, if_neg (by omega), if_pos htwo]
  case lone =>
    obtain ⟨d, hd⟩ := List.length_eq_one_iff.mp (hmap.trans hlen)
    rw [ch2Body_symbols (Nat.le_of_eq hlen.symm) hlen', ch2Symbols_data hdata, hd, ch2Structured_lone, raise_eq,
      State.setRaised]
  case xpom =>
    have hsymbol {d : BitVec 8} (hd : d ∈ raw.map hamDec) : d.toNat < 64 := toNat_lt_of_data hdata hd
    have hlen6 : (d0 :: d1 :: rest).length = raw.length := hraw ▸ hmap
    rw [hraw] at hsymbol
    rw [datagram12_div (hsymbol (by simp)) (hsymbol (by simp))] at h8 h11
    rw [ch2Body_symbols (by rw [← hlen6]; simp) hlen', ch2Symbols_data hdata, hraw,
      ch2Structured_xpom_malformed (hlen6 ▸ hlen) h8 h11, hlen6, raise_eq, State.setRaised]

end Sys2Proof.Machine
end

section
/-! PROOFS. The response rate (43_railcom R190 to R196): what a channel-2 read adds to the window of its index, and what
GET_RC2_RATE reports before and after the fiftieth read. -/

namespace Sys2Proof.Machine

/-! ## Which reads count as a response (R196) -/

/-- No flag of a decoded value is cleared. -/
structure Rc2.Grows (r r' : Rc2) : Prop where
  addr : r.addrValid = true → r'.addrValid = true
  cv : r.cvValid = true → r'.cvValid = true
  dyn : r.dynValid = true → r'.dynValid = true

theorem Rc2.Grows.refl (r : Rc2) : r.Grows r := ⟨id, id, id⟩

theorem Rc2.Grows.combined {r r' : Rc2} (h : r.Grows r') : r.Grows r'.combined := by
  unfold Rc2.combined
  split
  · exact ⟨fun _ => rfl, h.cv, h.dyn⟩
  · exact h

/-- No XPOM slot whose flag is set is written (R185). -/
def XpomGuarded (x x' : Vector XpomSlot 4) : Prop :=
  ∀ q : BitVec 2, x[q.toNat].valid = true → x'[q.toNat] = x[q.toNat]

/-- `Ch2Effect`, with the answer to whether the read counts as a response and what it keeps of the records. -/
def Ch2Counts (counts : Bool) (idx : BitVec 8) (s t : State) : Prop :=
  ∃ r x log, s.rc2.Grows r ∧ XpomGuarded s.xpom x ∧
    if counts then t = statResponse idx (((s.setRc2 r).setXpom x).setRaised log)
    else t = ((s.setRc2 r).setXpom x).setRaised log ∨ t = statTouch idx (((s.setRc2 r).setXpom x).setRaised log)

namespace Ch2Counts
variable (idx : BitVec 8) (s : State)

theorem nothing : Ch2Counts false idx s s := ⟨s.rc2, s.xpom, s.raised, .refl _, fun _ _ => rfl, .inl rfl⟩

theorem raise (f : Raised) : Ch2Counts false idx s (Machine.raise f s) :=
  ⟨s.rc2, s.xpom, _, .refl _, fun _ _ => rfl, .inl rfl⟩

theorem touch : Ch2Counts false idx s (statTouch idx s) :=
  ⟨s.rc2, s.xpom, s.raised, .refl _, fun _ _ => rfl, .inr rfl⟩

theorem unknown (id : Nat) : Ch2Counts false idx s (rc2Unknown id idx s) :=
  ⟨s.rc2, s.xpom, _, .refl _, fun _ _ => rfl, .inr rfl⟩

theorem response : Ch2Counts true idx s (statResponse idx s) :=
  ⟨s.rc2, s.xpom, s.raised, .refl _, fun _ _ => rfl, rfl⟩

theorem record {r : Rc2} (h : s.rc2.Grows r) : Ch2Counts true idx s (statResponse idx (s.setRc2 r)) :=
  ⟨r, s.xpom, s.raised, h, fun _ _ => rfl, rfl⟩

theorem xpom (q : BitVec 2) (b0 b1 b2 b3 : Byte) : Ch2Counts true idx s (rc2Xpom q b0 b1 b2 b3 idx s) := by
  cases hfree : (s.xpomAt q).valid with
  | true =>
    rw [rc2Xpom_of_taken hfree]
    exact response idx s
  | false =>
    rw [rc2Xpom_of_free hfree]
    refine ⟨s.rc2, s.xpom.set q.toNat ⟨b0, b1, b2, b3, true⟩, s.raised, .refl _, fun p hp => ?_, rfl⟩
    have hne : ¬ q = p := fun h => by
      rw [← h] at hp
      exact Bool.false_ne_true (hfree.symm.trans hp)
    have hslot := xpomAt_setXpomAt s q p ⟨b0, b1, b2, b3, true⟩
    rw [if_neg hne] at hslot
    exact hslot

theorem dyn (val : BitVec 8) (rest : List (BitVec 8)) : Ch2Counts true idx s (ch2Dyn val rest idx s) := by
  unfold ch2Dyn
  split
  · exact record idx s ⟨id, id, fun _ => rfl⟩
  · exact record idx s ⟨id, id, fun _ => rfl⟩

theorem xpomRead (d : List (BitVec 8)) (q : BitVec 2) : Ch2Counts (d.length == 6) idx s (ch2Xpom d q idx s) := by
  by_cases hlen : d.length = 6
  · match d, hlen with
    | [_, _, _, _, _, _], _ => exact xpom idx s q _ _ _ _
  · rw [ch2Xpom_malformed hlen, beq_false_of_ne hlen]
    exact raise idx s _

/-- Structured decode counts for identifiers 0, 1, 2 and 7, and for 8 to 11 with six symbols. -/
theorem structured (d0 d1 : BitVec 8) (rest : List (BitVec 8)) :
    Ch2Counts ([0, 1, 2, 7].contains (dgId d0).toNat ||
        (decide (8 ≤ (dgId d0).toNat) && decide ((dgId d0).toNat ≤ 11) && (d0 :: d1 :: rest).length == 6))
      idx s (ch2Structured (d0 :: d1 :: rest) idx s) := by
  unfold ch2Structured
  dsimp only
  split <;> rename_i hid
  · rw [hid]; exact record idx s ⟨id, fun _ => rfl, id⟩
  · rw [hid, rc2AdrHigh_eq]; exact record idx s (.combined ⟨id, id, id⟩)
  · rw [hid, rc2AdrLow_eq]; exact record idx s (.combined ⟨id, id, id⟩)
  · rw [hid]; exact dyn idx s _ _
  · rw [hid]; exact xpomRead idx s _ _
  · rw [hid]; exact xpomRead idx s _ _
  · rw [hid]; exact xpomRead idx s _ _
  · rw [hid]; exact xpomRead idx s _ _
  · have hno : ([0, 1, 2, 7].contains (dgId d0).toNat ||
        (decide (8 ≤ (dgId d0).toNat) && decide ((dgId d0).toNat ≤ 11) && (d0 :: d1 :: rest).length == 6)) = false := by
      simp only [List.contains_cons, List.contains_nil, Bool.or_false, Bool.or_eq_false_iff, Bool.and_eq_false_imp,
        beq_eq_false_iff_ne, Bool.and_eq_true, decide_eq_true_eq]
      simp only [imp_false] at *
      exact ⟨by omega, fun _ => by omega⟩
    rw [hno]
    exact unknown idx s _

end Ch2Counts

theorem validSymbols_of_valid {raw : List Byte} (hlen : raw.length ≤ 6) (hvalid : 0xFF ∉ raw.map hamDec) :
    validSymbols raw = raw.map hamDec := by
  have hlong : decide (rc2Max < raw.length) = false := decide_eq_false (Nat.not_lt.mpr hlen)
  rw [validSymbols, hlong, any_isInvalid_eq_false_iff.mpr hvalid, Bool.or_false, if_neg Bool.false_ne_true]

theorem validSymbols_of_not_valid {raw : List Byte} (h : 6 < raw.length ∨ 0xFF ∈ raw.map hamDec) :
    validSymbols raw = [] := by
  rw [validSymbols, if_pos]
  rw [Bool.or_eq_true, decide_eq_true_iff, any_isInvalid_eq_true_iff]
  exact h

/-- The body of a channel-2 decode counts a response exactly for the reads R196 names. -/
theorem ch2Body_counts (raw : List Byte) (idx : BitVec 8) (s : State) :
    Ch2Counts (isResponse raw) idx s (ch2Body raw idx s) := by
  by_cases hlen : raw.length ≤ 6
  case neg =>
    rw [isResponse, validSymbols_of_not_valid (.inl (Nat.lt_of_not_le hlen)), ch2Body_long (Nat.lt_of_not_le hlen)]
    exact .raise idx s _
  case pos =>
    match raw with
    | [] => exact .nothing idx s
    | b :: bs =>
      rw [ch2Body_symbols (by simp) hlen]
      by_cases hvalid : 0xFF ∈ (b :: bs).map hamDec
      · rw [isResponse, validSymbols_of_not_valid (.inr hvalid), ch2Symbols_invalid hvalid]
        exact .raise idx s _
      · rw [isResponse, validSymbols_of_valid hlen hvalid, ch2Symbols_valid hvalid]
        split
        case h_1 hone => rw [if_pos hone]; exact .response idx s
        case h_2 hdata =>
          rw [hdata, if_neg (by decide), if_neg (by decide)]
          match bs with
          | [] => exact .raise idx s _
          | c :: cs => exact .structured idx s _ _ _
        case h_3 hone hdata =>
          simp only [imp_false] at hone hdata
          have htwo : 2 ≤ ((b :: bs).map hamDec).countP notData := by omega
          rw [if_neg hone, if_pos htwo]
          exact .touch idx s

/-! ## What a read adds to the entry of its index -/

section Slots
variable (e : StatEntry) (ms : BitVec 32) (slot : Bool)

theorem StatEntry.cmdCnt_command :
    (e.command ms).cmdCnt slot = if slot = e.active then e.cmdCnt slot + 1 else e.cmdCnt slot := by
  cases slot <;> cases h : e.active <;> simp [StatEntry.command, StatEntry.setCmdCnt, StatEntry.cmdCnt, h]

theorem StatEntry.rspCnt_command : (e.command ms).rspCnt slot = e.rspCnt slot := by
  cases h : e.active <;> simp [StatEntry.command, StatEntry.setCmdCnt, StatEntry.rspCnt, h]

theorem StatEntry.active_command : (e.command ms).active = e.active := by
  cases h : e.active <;> simp [StatEntry.command, StatEntry.setCmdCnt, h]

theorem StatEntry.cmdCnt_response : (e.response ms).cmdCnt slot = e.cmdCnt slot := by
  cases h : e.active <;> simp [StatEntry.response, StatEntry.setRspCnt, StatEntry.cmdCnt, h]

theorem StatEntry.rspCnt_response :
    (e.response ms).rspCnt slot = if slot = e.active then e.rspCnt slot + 1 else e.rspCnt slot := by
  cases slot <;> cases h : e.active <;> simp [StatEntry.response, StatEntry.setRspCnt, StatEntry.rspCnt, h]

theorem StatEntry.active_response : (e.response ms).active = e.active := by
  cases h : e.active <;> simp [StatEntry.response, StatEntry.setRspCnt, h]

theorem StatEntry.cmdCnt_touch : (e.touch ms).cmdCnt slot = e.cmdCnt slot := rfl

theorem StatEntry.rspCnt_touch : (e.touch ms).rspCnt slot = e.rspCnt slot := rfl

theorem StatEntry.active_touch : (e.touch ms).active = e.active := rfl

end Slots

/-- `Counted`, slot by slot. -/
theorem StatEntry.counted_iff {e : StatEntry} :
    e.Counted ↔ (∀ slot, (e.rspCnt slot).toNat ≤ (e.cmdCnt slot).toNat ∧ (e.cmdCnt slot).toNat ≤ window) ∧
      (e.cmdCnt e.active).toNat < window := by
  constructor
  · intro h
    refine ⟨fun slot => ?_, h.filling⟩
    cases slot with
    | false => exact ⟨h.rsp0, h.cmd0⟩
    | true => exact ⟨h.rsp1, h.cmd1⟩
  · rintro ⟨hslots, hfilling⟩
    exact ⟨(hslots false).1, (hslots true).1, (hslots false).2, (hslots true).2, hfilling⟩

theorem StatEntry.counted_zero : StatEntry.zero.Counted :=
  ⟨by decide, by decide, by decide, by decide, by decide⟩

/-- `e'` is `e` after `n` commands, `k` of them with a response, have been counted in the active slot. -/
structure StatEntry.Added (n k : Nat) (e e' : StatEntry) : Prop where
  active : e'.active = e.active
  cmd : (e'.cmdCnt e.active).toNat = (e.cmdCnt e.active).toNat + n
  rsp : (e'.rspCnt e.active).toNat = (e.rspCnt e.active).toNat + k
  otherCmd : e'.cmdCnt (!e.active) = e.cmdCnt (!e.active)
  otherRsp : e'.rspCnt (!e.active) = e.rspCnt (!e.active)

theorem StatEntry.Added.refl (e : StatEntry) : StatEntry.Added 0 0 e e := ⟨rfl, rfl, rfl, rfl, rfl⟩

theorem StatEntry.Added.trans {e e' e'' : StatEntry} {n k n' k' : Nat} (h : StatEntry.Added n k e e')
    (h' : StatEntry.Added n' k' e' e'') : StatEntry.Added (n + n') (k + k') e e'' := by
  obtain ⟨ha, hc, hr, hoc, hor⟩ := h
  obtain ⟨ha', hc', hr', hoc', hor'⟩ := h'
  rw [ha] at ha' hc' hr' hoc' hor'
  exact ⟨ha', by omega, by omega, hoc'.trans hoc, hor'.trans hor⟩

/-- What the body of a read does to the entry, after the command. -/
def StatEntry.ReadBody (counts : Bool) (ms : BitVec 32) (g : StatEntry → StatEntry) : Prop :=
  if counts then g = StatEntry.response ms else g = id ∨ g = StatEntry.touch ms

/-- A read counts one command, and one response if it is one. -/
theorem StatEntry.Added.of_read {counts : Bool} {ms : BitVec 32} {g : StatEntry → StatEntry}
    (hg : StatEntry.ReadBody counts ms g) {e : StatEntry} (he : e.Counted) :
    StatEntry.Added 1 counts.toNat e (g (e.command ms)) := by
  obtain ⟨hslots, hfilling⟩ := StatEntry.counted_iff.mp he
  have hrsp := (hslots e.active).1
  have hcmd_succ : (e.cmdCnt e.active + 1#6).toNat = (e.cmdCnt e.active).toNat + 1 :=
    BitVec.toNat_add_of_lt (show _ + 1 < 2 ^ 6 by simp only [window] at hfilling; omega)
  have hrsp_succ : (e.rspCnt e.active + 1#6).toNat = (e.rspCnt e.active).toNat + 1 :=
    BitVec.toNat_add_of_lt (show _ + 1 < 2 ^ 6 by simp only [window] at hfilling; omega)
  have hne : ¬ (!e.active) = e.active := Bool.not_ne_self _
  cases counts with
  | true =>
    obtain rfl : g = StatEntry.response ms := hg
    constructor <;>
      simp [-BitVec.toNat_add, cmdCnt_command, rspCnt_command, active_command, cmdCnt_response, rspCnt_response,
        active_response, hcmd_succ, hrsp_succ, hne]
  | false =>
    obtain rfl | rfl : g = id ∨ g = StatEntry.touch ms := hg
    all_goals
      constructor <;>
        simp [-BitVec.toNat_add, cmdCnt_command, rspCnt_command, active_command, cmdCnt_touch, rspCnt_touch, active_touch,
          hcmd_succ, hne]

/-- Between two reads an entry is `Counted`: rotation empties the slot a fiftieth command has filled. -/
theorem StatEntry.Added.counted_rotate {n k : Nat} (hk : k ≤ n) {e e' : StatEntry} (h : StatEntry.Added n k e e')
    (he : e.Counted) (hn : (e.cmdCnt e.active).toNat + n ≤ window) : e'.rotate.Counted := by
  obtain ⟨hactive, hcmd, hrsp, hotherCmd, hotherRsp⟩ := h
  obtain ⟨hslots, -⟩ := StatEntry.counted_iff.mp he
  have hslots' (slot : Bool) : (e'.rspCnt slot).toNat ≤ (e'.cmdCnt slot).toNat ∧ (e'.cmdCnt slot).toNat ≤ window := by
    by_cases hslot : slot = e.active
    · rw [hslot, hcmd, hrsp]
      exact ⟨Nat.add_le_add (hslots _).1 hk, hn⟩
    · rw [Bool.eq_not_of_ne hslot, hotherCmd, hotherRsp]
      exact hslots _
  by_cases hfull : window ≤ (e'.cmdCnt e'.active).toNat
  · obtain ⟨h0, h1⟩ := And.intro (hslots' false) (hslots' true)
    cases ha : e'.active with
    | false =>
      rw [StatEntry.cmdCnt_slot0 ha] at hfull
      rw [StatEntry.rotate_full_slot0 ha hfull]
      exact ⟨h0.1, Nat.zero_le _, h0.2, Nat.zero_le _, (by decide : 0 < 50)⟩
    | true =>
      rw [StatEntry.cmdCnt_slot1 ha] at hfull
      rw [StatEntry.rotate_full_slot1 ha hfull]
      exact ⟨Nat.zero_le _, h1.1, Nat.zero_le _, h1.2, (by decide : 0 < 50)⟩
  · rw [StatEntry.rotate_filling (Nat.lt_of_not_le hfull)]
    exact StatEntry.counted_iff.mpr ⟨hslots', Nat.lt_of_not_le hfull⟩

/-! ## What a read does to the table -/

/-- `t` is `s` with at most the entry of `idx` changed, the table's form and bound kept. -/
structure TouchesEntry (idx : BitVec 8) (s t : State) : Prop where
  cfg : t.cfg = s.cfg
  time : t.time = s.time
  wf : Memory.wf StatEntry.zero s.stat → Memory.wf StatEntry.zero t.stat
  bound : (∀ p ∈ s.stat, p.1 < s.cfg.nLoco) → ∀ p ∈ t.stat, p.1 < t.cfg.nLoco
  other : ∀ k, k ≠ idx → t.statAt k = s.statAt k

namespace TouchesEntry
variable {idx : BitVec 8} {s t u : State}

theorem refl (idx : BitVec 8) (s : State) : TouchesEntry idx s s := ⟨rfl, rfl, id, id, fun _ _ => rfl⟩

theorem trans (h : TouchesEntry idx s t) (h' : TouchesEntry idx t u) : TouchesEntry idx s u :=
  ⟨h'.cfg.trans h.cfg, h'.time.trans h.time, h'.wf ∘ h.wf, h'.bound ∘ h.bound,
    fun k hk => (h'.other k hk).trans (h.other k hk)⟩

theorem updStat (idx : BitVec 8) (s : State) (f : StatEntry → StatEntry) : TouchesEntry idx s (s.updStat idx f) := by
  refine ⟨?cfg, ?time, updStat_wf s idx f, fun hbound p hp => ?bound, fun k hk => statAt_updStat_other s idx k f hk⟩
  case cfg => rw [updStat_eq, State.setStat_cfg]
  case time => rw [updStat_eq, State.setStat_time]
  case bound =>
    rw [updStat_eq] at hp ⊢
    rw [State.setStat_stat] at hp
    split at hp
    case isTrue hslot =>
      obtain ⟨rfl, -⟩ | hp := Memory.mem_write hp
      · exact hasSlot_eq_true_iff.mp hslot
      · exact hbound p hp
    case isFalse => exact hbound p hp

/-- Writes outside the table. -/
theorem records (idx : BitVec 8) (s : State) (r : Rc2) (x : Vector XpomSlot 4) (log : List Raised) :
    TouchesEntry idx s (((s.setRc2 r).setXpom x).setRaised log) := ⟨rfl, rfl, id, id, fun _ _ => rfl⟩

end TouchesEntry

theorem Ch2Counts.touches {counts : Bool} {idx : BitVec 8} {s t : State} (h : Ch2Counts counts idx s t) :
    TouchesEntry idx s t := by
  obtain ⟨r, x, log, -, -, h⟩ := h
  have hrecords := TouchesEntry.records idx s r x log
  cases counts with
  | true =>
    obtain rfl : t = _ := h
    exact hrecords.trans (.updStat idx _ _)
  | false =>
    obtain rfl | rfl : t = _ ∨ t = _ := h
    · exact hrecords
    · exact hrecords.trans (.updStat idx _ _)

theorem Ch2Counts.entry {counts : Bool} {idx : BitVec 8} {s t : State} (h : Ch2Counts counts idx s t)
    (hw : Memory.wf StatEntry.zero s.stat) (hslot : idx.toNat < s.cfg.nLoco) :
    ∃ g, StatEntry.ReadBody counts s.time.ms g ∧ t.statAt idx = g (s.statAt idx) := by
  obtain ⟨r, x, log, -, -, h⟩ := h
  have update (f : StatEntry → StatEntry) :
      ((((s.setRc2 r).setXpom x).setRaised log).updStat idx f).statAt idx = f (s.statAt idx) :=
    statAt_updStat_slot (s := ((s.setRc2 r).setXpom x).setRaised log) hw hslot f
  cases counts with
  | true =>
    obtain rfl : t = _ := h
    exact ⟨_, rfl, update _⟩
  | false =>
    obtain rfl | rfl : t = _ ∨ t = _ := h
    · exact ⟨id, .inl rfl, rfl⟩
    · exact ⟨_, .inr rfl, update _⟩

theorem ch2Decode_touches (raw : List Byte) (idx : BitVec 8) (s : State) : TouchesEntry idx s (ch2Decode raw idx s) :=
  ((TouchesEntry.updStat idx s _).trans (ch2Body_counts raw idx _).touches).trans (.updStat idx _ _)

/-- A read is a command, perhaps a response or a touch, and a rotation of its entry. -/
theorem statAt_ch2Decode {s : State} {idx : BitVec 8} (raw : List Byte) (hw : Memory.wf StatEntry.zero s.stat)
    (hslot : idx.toNat < s.cfg.nLoco) :
    ∃ g, StatEntry.ReadBody (isResponse raw) s.time.ms g ∧
      (ch2Decode raw idx s).statAt idx = (g ((s.statAt idx).command s.time.ms)).rotate := by
  have hcommand : TouchesEntry idx s (statCommand idx s) := .updStat idx s _
  have hbody := ch2Body_counts raw idx (statCommand idx s)
  obtain ⟨g, hg, hentry⟩ := hbody.entry (hcommand.wf hw) (hcommand.cfg ▸ hslot)
  rw [hcommand.time] at hg
  have hkept := hcommand.trans hbody.touches
  have hrotate : (ch2Decode raw idx s).statAt idx = _ := statAt_updStat_slot (hkept.wf hw) (hkept.cfg ▸ hslot) _
  refine ⟨g, hg, ?_⟩
  rw [hrotate, hentry, statCommand, statAt_updStat_slot hw hslot]

/-! ## The window (R193, R195) -/

/-- Fewer reads than the window still holds: each adds one command, and a response if it counts as one. -/
theorem decodeAll_added {idx : BitVec 8} (raws : List (List Byte)) {s : State} (hw : Memory.wf StatEntry.zero s.stat)
    (hslot : idx.toNat < s.cfg.nLoco) (he : (s.statAt idx).Counted)
    (hroom : ((s.statAt idx).cmdCnt (s.statAt idx).active).toNat + raws.length < window) :
    TouchesEntry idx s (decodeAll idx raws s) ∧ ((decodeAll idx raws s).statAt idx).Counted ∧
      StatEntry.Added raws.length (raws.countP isResponse) (s.statAt idx) ((decodeAll idx raws s).statAt idx) := by
  induction raws generalizing s with
  | nil => exact ⟨.refl idx s, he, .refl _⟩
  | cons raw raws ih =>
    have htouch := ch2Decode_touches raw idx s
    obtain ⟨g, hg, hentry⟩ := statAt_ch2Decode raw hw hslot
    have hadded := StatEntry.Added.of_read hg he
    rw [List.length_cons] at hroom
    have hcounted : ((ch2Decode raw idx s).statAt idx).Counted :=
      hentry ▸ hadded.counted_rotate (Bool.toNat_le _) he (by omega)
    have hfilling : (g ((s.statAt idx).command s.time.ms)).rotate = g ((s.statAt idx).command s.time.ms) :=
      StatEntry.rotate_filling (by rw [hadded.active, hadded.cmd]; simp only [window] at hroom; omega)
    rw [← hfilling, ← hentry] at hadded
    obtain ⟨htouches, hcounted', hrest⟩ := ih (htouch.wf hw) (htouch.cfg ▸ hslot) hcounted (by
      rw [hadded.active, hadded.cmd]
      omega)
    refine ⟨htouch.trans htouches, hcounted', ?_⟩
    have hall := hadded.trans hrest
    have hcount : (raw :: raws).countP isResponse = (isResponse raw).toNat + raws.countP isResponse := by
      rw [List.countP_cons, Nat.add_comm]
      cases isResponse raw <;> rfl
    rw [List.length_cons, hcount, Nat.add_comm raws.length]
    exact hall

theorem decodeAll_concat (idx : BitVec 8) (raws : List (List Byte)) (raw : List Byte) (s : State) :
    decodeAll idx (raws ++ [raw]) s = ch2Decode raw idx (decodeAll idx raws s) := by
  induction raws generalizing s with
  | nil => rfl
  | cons r raws ih => exact ih _

/-- After a full slot has rotated, the other slot is the one just filled. -/
theorem StatEntry.rotate_full_other {e : StatEntry} (hfull : window ≤ (e.cmdCnt e.active).toNat) :
    e.rotate.rspCnt (!e.rotate.active) = e.rspCnt e.active := by
  cases ha : e.active with
  | false =>
    rw [StatEntry.cmdCnt_slot0 ha] at hfull
    rw [StatEntry.rotate_full_slot0 ha hfull]
    rfl
  | true =>
    rw [StatEntry.cmdCnt_slot1 ha] at hfull
    rw [StatEntry.rotate_full_slot1 ha hfull]
    rfl

/-- The entries of a state of the invariant are counted, listed or not. -/
theorem Inv.counted {s : State} (h : Inv s) (k : BitVec 8) : (s.statAt k).Counted := by
  by_cases hk : ∃ p ∈ s.stat, p.1 = k.toNat
  · obtain ⟨p, hp, hpk⟩ := hk
    have hread : s.statAt k = p.2 := by rw [State.statAt, ← hpk, Memory.read_of_mem h.statForm hp]
    exact hread ▸ (h.statEntries p hp).2
  · have hread : s.statAt k = StatEntry.zero := Memory.read_of_forall_ne fun p hp hpk => hk ⟨p, hp, hpk⟩
    exact hread ▸ StatEntry.counted_zero

/-- GET_RC2_RATE in percent: `K` of 50 is `2 * K` (R195). -/
theorem exec_getRc2Rate_of_slot {idx : BitVec 8} {s : State} {n : Nat} (hslot : idx.toNat < s.cfg.nLoco)
    (hn : ((s.statAt idx).rspCnt (!(s.statAt idx).active)).toNat = n) :
    exec (.getRc2Rate idx) s = .next { s with response := some (.rate (BitVec.ofNat 8 (n * 100 / 50))) } := by
  have hpercent : n * 100 / 50 = 2 * n := by omega
  rw [(PureRead.getRc2Rate idx).exec_eq_with_response, rc2Rate_of_slot hslot, hn, hpercent]

/-- Settles O44: reads that leave the window open add to the active slot only (`decodeAll_added`), so the other slot and
the rate stay; the fiftieth read rotates the slot it has filled into the place of the other. -/
theorem responseRateReportsTheCompletedWindow : Obligations.ResponseRateReportsTheCompletedWindow := by
  unfold Obligations.ResponseRateReportsTheCompletedWindow
  intro s idx hinv hslot
  have he := hinv.counted idx
  obtain ⟨hslots, -⟩ := StatEntry.counted_iff.mp he
  refine ⟨exec_getRc2Rate_of_slot hslot rfl, ?bound, fun hempty raws => ?reads⟩
  case bound =>
    obtain ⟨hrsp, hcmd⟩ := hslots (!(s.statAt idx).active)
    simp only [window] at hcmd
    omega
  case reads =>
    have hcmd0 : ((s.statAt idx).cmdCnt (s.statAt idx).active).toNat = 0 := by rw [hempty]; rfl
    have hrsp0 : ((s.statAt idx).rspCnt (s.statAt idx).active).toNat = 0 :=
      Nat.le_zero.mp (hcmd0 ▸ (hslots (s.statAt idx).active).1)
    have hopen (raws : List (List Byte)) (hlen : raws.length < 50) :=
      decodeAll_added raws hinv.statForm hslot he (by rw [hcmd0, Nat.zero_add]; exact hlen)
    have hstays (hlen : raws.length < 50) {n : Nat} (hn : ((s.statAt idx).rspCnt (!(s.statAt idx).active)).toNat = n) := by
      obtain ⟨htouch, -, hadded⟩ := hopen raws hlen
      refine exec_getRc2Rate_of_slot (s := decodeAll idx raws s) (n := n) (htouch.cfg ▸ hslot) ?_
      rw [hadded.active, hadded.otherRsp, hn]
    refine ⟨fun hlen => hstays hlen rfl, fun hlen hzero => hstays (n := 0) hlen (by rw [hzero]; rfl), fun hlen => ?full⟩
    case full =>
      obtain ⟨init, last, rfl⟩ := List.eq_nil_or_concat raws |>.resolve_left (by rintro rfl; cases hlen)
      rw [List.concat_eq_append] at hlen ⊢
      rw [List.length_append, List.length_singleton] at hlen
      obtain ⟨htouch, hcounted, hadded⟩ := hopen init (by omega)
      obtain ⟨g, hg, hentry⟩ := statAt_ch2Decode last (htouch.wf hinv.statForm) (htouch.cfg ▸ hslot)
      have hall := hadded.trans (.of_read hg hcounted)
      have hcfg := (ch2Decode_touches last idx _).cfg.trans htouch.cfg
      rw [decodeAll_concat]
      refine exec_getRc2Rate_of_slot (s := ch2Decode last idx (decodeAll idx init s)) (hcfg ▸ hslot) ?_
      rw [hentry, StatEntry.rotate_full_other (by rw [hall.active, hall.cmd, hcmd0]; simp only [window]; omega), hall.active,
        hall.rsp, hrsp0, List.countP_append, List.countP_singleton]
      cases isResponse last <;> simp

end Sys2Proof.Machine
end

section
/-! PROOFS. The transmitter (40_tick R113 to R120). What an acting slot makes of the transmitter's own registers depends on
them, on the packet slot, on the mode and on nothing else, so it is written here as a function of these; one equation per
operation of the model ties the functions to the model. -/

namespace Sys2Proof.Machine

/-! ## The transmitter's registers as a machine of their own -/

/-- What the transmitter reads outside its own registers. -/
structure Feed where
  /-- EMIT_END_BIT. -/
  endBit : Bool
  mode : Mode
  inhibit : Bool
  slot : Slot

def State.feed (s : State) : Feed := ⟨s.cfg.emitEndBit, s.ctl.mode, s.ctl.cutoutInhibit, s.buf⟩

/-- StartHalf (R115). -/
def Tx.startHalf (v : Bool) (t : Tx) : Tx := { t with longPulse := !v, halfSel := !t.halfSel }

/-- The frame READY takes: the pending one or the filler (R114). -/
def Tx.loadFrame (f : Feed) (t : Tx) : Tx :=
  if f.slot.bufLen = 0 then
    { t with txLen := 3, txBytes := storeBytes 0 (fillerFrame f.mode) t.txBytes, txLocoIdx := locoNone }
  else { t with txLen := f.slot.bufLen, txBytes := f.slot.bufBytes, txLocoIdx := f.slot.bufLocoIdx }

/-- READY (R114). -/
def Tx.ready (f : Feed) (t : Tx) : Tx :=
  { t.loadFrame f with preCnt := t.preambleLen, halfSel := false, txState := .preamble }

/-- PRE_SLOT (R116). -/
def Tx.preSlot (t : Tx) : Tx :=
  if t.preCnt = 0 then
    if t.halfSel then { t.startHalf false with txState := .data, byteIdx := 0, bitIdx := 0 } else t.startHalf false
  else if t.halfSel then { t.startHalf true with preCnt := t.preCnt - 1 } else t.startHalf true

/-- EndOfFrame goes to CUTOUT (R120). -/
def Feed.toCutout (f : Feed) : Bool := f.mode == .railcom && !f.inhibit

/-- The preamble EndOfFrame selects (R120, D12). -/
def Feed.nextPreamble (f : Feed) : BitVec 5 :=
  if f.toCutout then preRc else if f.mode = .programming then prePgm else preNorc

/-- EndOfFrame (R120). -/
def Tx.endOfFrame (f : Feed) (t : Tx) : Tx :=
  if f.toCutout then { t with txState := .cutout, cutoutStep := 0, preambleLen := f.nextPreamble }
  else { t with txState := .ready, preambleLen := f.nextPreamble }

/-- The bit being sent is the frame's last (R117, R120). -/
def Tx.lastBit (f : Feed) (t : Tx) : Bool :=
  t.lastByte && (decide (t.bitIdx.toNat = 7) && !f.endBit || decide (8 ≤ t.bitIdx.toNat))

/-- The position after a bit (R117). -/
def Tx.nextBit (f : Feed) (t : Tx) : Tx :=
  if t.lastBit f then t.endOfFrame f
  else if t.bitIdx.toNat ≤ 7 then { t with bitIdx := t.bitIdx + 1 }
  else { t with byteIdx := t.byteIdx + 1, bitIdx := 0 }

/-- DATA_SLOT (R117). -/
def Tx.dataSlot (f : Feed) (t : Tx) : Tx :=
  if t.halfSel then (t.startHalf t.dataBit).nextBit f else t.startHalf t.dataBit

section NextBit
variable {f : Feed} {t : Tx}

theorem Tx.lastBit_eq_true_iff :
    t.lastBit f = true ↔ t.lastByte = true ∧ (t.bitIdx.toNat = 7 ∧ f.endBit = false ∨ 8 ≤ t.bitIdx.toNat) := by
  simp [Tx.lastBit]

theorem Tx.lastBit_eq_false_iff :
    t.lastBit f = false ↔ t.bitIdx.toNat < 7 ∨ t.lastByte = false ∨ t.bitIdx.toNat = 7 ∧ f.endBit = true := by
  rw [← Bool.not_eq_true, Tx.lastBit_eq_true_iff]
  cases t.lastByte <;> cases f.endBit <;> simp <;> omega

theorem Tx.nextBit_of_last (h : t.lastBit f = true) : t.nextBit f = t.endOfFrame f :=
  if_pos h

theorem Tx.nextBit_inside (h : t.lastBit f = false) (h7 : t.bitIdx.toNat ≤ 7) :
    t.nextBit f = { t with bitIdx := t.bitIdx + 1 } := by
  rw [Tx.nextBit, h, if_neg Bool.false_ne_true, if_pos h7]

theorem Tx.nextBit_nextByte (h : t.lastBit f = false) (h8 : 8 ≤ t.bitIdx.toNat) :
    t.nextBit f = { t with byteIdx := t.byteIdx + 1, bitIdx := 0 } := by
  rw [Tx.nextBit, h, if_neg Bool.false_ne_true, if_neg (Nat.not_le.mpr h8)]

theorem Tx.dataSlot_first (h : t.halfSel = false) :
    t.dataSlot f = { t with longPulse := !t.dataBit, halfSel := true } := by
  rw [Tx.dataSlot, Tx.startHalf, h, if_neg Bool.false_ne_true]
  rfl

theorem Tx.dataSlot_second (h : t.halfSel = true) :
    t.dataSlot f = ({ t with longPulse := !t.dataBit, halfSel := false } : Tx).nextBit f := by
  rw [Tx.dataSlot, Tx.startHalf, h, if_pos rfl]
  rfl

/-! The second half of a data bit, by the position. -/

theorem Tx.dataSlot_inside (h : t.halfSel = true) (hlast : t.lastBit f = false) (h7 : t.bitIdx.toNat ≤ 7) :
    t.dataSlot f = { t with longPulse := !t.dataBit, halfSel := false, bitIdx := t.bitIdx + 1 } :=
  (Tx.dataSlot_second h).trans (Tx.nextBit_inside (t := { t with longPulse := !t.dataBit, halfSel := false }) hlast h7)

theorem Tx.dataSlot_nextByte (h : t.halfSel = true) (hlast : t.lastBit f = false) (h8 : 8 ≤ t.bitIdx.toNat) :
    t.dataSlot f =
      { t with longPulse := !t.dataBit, halfSel := false, byteIdx := t.byteIdx + 1, bitIdx := 0 } :=
  (Tx.dataSlot_second h).trans (Tx.nextBit_nextByte (t := { t with longPulse := !t.dataBit, halfSel := false }) hlast h8)

theorem Tx.dataSlot_last (h : t.halfSel = true) (hlast : t.lastBit f = true) :
    t.dataSlot f = ({ t with longPulse := !t.dataBit, halfSel := false } : Tx).endOfFrame f :=
  (Tx.dataSlot_second h).trans (Tx.nextBit_of_last (t := { t with longPulse := !t.dataBit, halfSel := false }) hlast)

theorem add_one_of_seven {b : BitVec 4} (h : b.toNat = 7) : b + 1 = 8 :=
  BitVec.eq_of_toNat_eq (by rw [BitVec.toNat_add, h]; rfl)

end NextBit

/-! ## The model's operations in these terms -/

theorem startHalf_eq_tx (v : Bool) (s : State) :
    Machine.startHalf v s = (s.setTx (s.tx.startHalf v)).setOut { s.out with trackPol := !s.tx.halfSel } := rfl

theorem toNat_pos_iff {w : Nat} {b : BitVec w} : 0 < b.toNat ↔ b ≠ 0 := by
  rw [Nat.pos_iff_ne_zero, ← BitVec.toNat_inj.ne]
  rfl

theorem preSlot_eq (s : State) :
    Machine.preSlot s = (s.setTx s.tx.preSlot).setOut { s.out with trackPol := !s.tx.halfSel } := by
  simp only [Machine.preSlot, toNat_pos_iff, Tx.preSlot, startHalf_eq_tx]
  by_cases hcnt : s.tx.preCnt = 0
  · rw [if_neg (not_not.mpr hcnt), if_pos hcnt]
    split <;> rfl
  · rw [if_pos hcnt, if_neg hcnt]
    split <;> rfl

theorem endOfFrame_eq (s : State) : Machine.endOfFrame s = s.setTx (s.tx.endOfFrame s.feed) := by
  obtain ⟨hmode, hinhibit, heq⟩ | ⟨hmode, heq⟩ | ⟨hmode | ⟨hmode, hinhibit⟩, heq⟩ := endOfFrame_cases s <;>
    rw [heq, Tx.endOfFrame, Feed.nextPreamble, Feed.toCutout, State.feed]
  · rw [hmode, hinhibit]; rfl
  · rw [hmode]; rfl
  · rw [hmode]; rfl
  · rw [hmode, hinhibit]; rfl

theorem nextBit_eq (s : State) : Machine.nextBit s = s.setTx (s.tx.nextBit s.feed) := by
  have hend : s.feed.endBit = s.cfg.emitEndBit := rfl
  rw [Machine.nextBit]
  dsimp only
  split
  case isTrue h7 => rw [Tx.nextBit_inside (Tx.lastBit_eq_false_iff.mpr (.inl h7)) h7.le]
  case isFalse hge =>
    split
    case isTrue h7 =>
      split
      case isTrue hmore =>
        rw [Bool.or_eq_true, Bool.not_eq_true'] at hmore
        rw [Tx.nextBit_inside (Tx.lastBit_eq_false_iff.mpr (.inr (hmore.imp id fun h => ⟨h7, h⟩))) h7.le,
          add_one_of_seven h7]
      case isFalse hlast =>
        rw [Bool.not_eq_true, Bool.or_eq_false_iff, Bool.not_eq_false'] at hlast
        rw [Tx.nextBit_of_last (Tx.lastBit_eq_true_iff.mpr ⟨hlast.1, .inl ⟨h7, hlast.2⟩⟩), endOfFrame_eq]
    case isFalse hne =>
      have h8 : 8 ≤ s.tx.bitIdx.toNat := by omega
      split
      case isTrue hmore =>
        rw [Tx.nextBit_nextByte (Tx.lastBit_eq_false_iff.mpr (.inr (.inl (Bool.not_eq_true' _ ▸ hmore)))) h8]
      case isFalse hlast =>
        rw [Bool.not_eq_true, Bool.not_eq_false'] at hlast
        rw [Tx.nextBit_of_last (Tx.lastBit_eq_true_iff.mpr ⟨hlast, .inr h8⟩), endOfFrame_eq]

theorem dataSlot_eq (s : State) :
    Machine.dataSlot s = (s.setTx (s.tx.dataSlot s.feed)).setOut { s.out with trackPol := !s.tx.halfSel } := by
  simp only [Machine.dataSlot, Tx.dataSlot, nextBit_eq, startHalf_eq_tx]
  split_ifs <;> rfl

theorem enableTrack_eq (s : State) :
    enableTrack s = s.setOut { s.out with trackEn := s.ctl.boosterOn || s.out.trackEn } := by
  unfold enableTrack
  cases s.ctl.boosterOn <;> rfl

/-- READY, with what it does outside the transmitter: the track enabled, the slot released, `flow_continue` (R114). -/
theorem ready_eq (s : State) :
    Machine.ready s = ((s.setTx (s.tx.ready s.feed)).setBuf { s.buf with bufLen := 0 }).setOut
      { s.out with trackEn := s.ctl.boosterOn || s.out.trackEn, flowContinue := s.busy || s.out.flowContinue } := by
  rw [Machine.ready, enableTrack_eq]
  have hbusy : (s.setOut { s.out with trackEn := s.ctl.boosterOn || s.out.trackEn }).busy = s.busy := rfl
  dsimp only
  rw [hbusy]
  cases hslot : s.busy with
  | true =>
    have hlen : ¬ s.buf.bufLen = 0 := (busy_eq_true_iff s).mp hslot
    have hload : s.tx.loadFrame s.feed =
        { s.tx with txLen := s.buf.bufLen, txBytes := s.buf.bufBytes, txLocoIdx := s.buf.bufLocoIdx } := if_neg hlen
    rw [if_pos rfl, Tx.ready, hload]
    rfl
  | false =>
    have hlen : s.buf.bufLen = 0 := (busy_eq_false_iff s).mp hslot
    have hload : s.tx.loadFrame s.feed =
        { s.tx with
          txLen := 3, txBytes := storeBytes 0 (fillerFrame s.ctl.mode) s.tx.txBytes, txLocoIdx := locoNone } := if_pos hlen
    have hbuf : { s.buf with bufLen := 0 } = s.buf := by rw [← hlen]
    rw [if_neg Bool.false_ne_true, Tx.ready, hload, hbuf]
    rfl

/-! ## The statements -/

theorem exec_txsPreamble (s : State) : exec .txsPreamble s = .next (Machine.preSlot s) := rfl

theorem exec_txsData (s : State) : exec .txsData s = .next (Machine.dataSlot s) := rfl

theorem exec_txsReady (s : State) : exec .txsReady s = .next (Machine.preSlot (Machine.ready s)) := rfl

/-- Settles O15: the four branches of `Tx.preSlot`. -/
theorem preambleSlotStartsAHalfBit : Obligations.PreambleSlotStartsAHalfBit := by
  unfold Obligations.PreambleSlotStartsAHalfBit
  intro s i hi
  have hexec : exec i s = .next ((s.setTx s.tx.preSlot).setOut { s.out with trackPol := !s.tx.halfSel }) := by
    simp only [List.mem_cons, List.not_mem_nil, or_false] at hi
    obtain rfl | rfl := hi
    · rw [exec_preSlot, preSlot_eq]
    · rw [exec_txsPreamble, preSlot_eq]
  rw [hexec, Tx.preSlot]
  refine ⟨fun hcnt => ?one, fun hcnt hhalf => ?first, fun hcnt hhalf => ?second⟩
  case one =>
    rw [if_neg hcnt]
    cases hhalf : s.tx.halfSel <;> simp [Tx.startHalf, hhalf, State.setTx, State.setOut]
  case first =>
    rw [if_pos hcnt]
    simp [Tx.startHalf, hhalf, State.setTx, State.setOut]
  case second =>
    rw [if_pos hcnt]
    simp [Tx.startHalf, hhalf, State.setTx, State.setOut]

theorem storeBytes_three (a b c : Byte) (v : Vector Byte 9) :
    storeBytes 0 [a, b, c] v = ((v.set 0 a).set 1 b).set 2 c := by
  ext i hi
  simp [storeBytes, Vector.getElem_setIfInBounds, Vector.getElem_set]

/-- Settles O14: READY is `ready_eq`, and the row TXS_READY is READY and PRE_SLOT by definition. -/
theorem readyFetchesTheFrame : Obligations.ReadyFetchesTheFrame := by
  unfold Obligations.ReadyFetchesTheFrame
  intro s
  refine ⟨fun hlen => ?pending, fun hlen => ?filler, _, _, exec_ready s, exec_preSlot _, exec_txsReady s⟩
  case pending =>
    have hbusy : s.busy = true := (busy_eq_true_iff s).mpr hlen
    have hload : s.tx.loadFrame s.feed = _ := if_neg hlen
    rw [exec_ready, ready_eq, Tx.ready, hload, hbusy]
    rfl
  case filler =>
    have hbusy : s.busy = false := (busy_eq_false_iff s).mpr hlen
    have hload : s.tx.loadFrame s.feed = _ := if_pos hlen
    have hbuf : { s.buf with bufLen := 0 } = s.buf := by rw [← hlen]
    have hfiller : storeBytes 0 (fillerFrame s.feed.mode) s.tx.txBytes =
        if s.ctl.mode = .programming then ((s.tx.txBytes.set 0 0x00).set 1 0x00).set 2 0x00
        else ((s.tx.txBytes.set 0 0xFF).set 1 0x00).set 2 0xFF := by
      rw [State.feed]
      cases s.ctl.mode <;> exact storeBytes_three _ _ _ _
    rw [exec_ready, ready_eq, Tx.ready, hload, hbusy, hbuf, hfiller]
    rfl

/-- Inside the ranges of R42 the test for the last byte does not wrap (log 17). -/
theorem lastByte_eq {t : Tx} (h : t.byteIdx.toNat ≤ 8) : t.lastByte = decide (t.byteIdx.toNat + 1 = t.txLen.toNat) := by
  have hlen := t.txLen.isLt
  rw [Tx.lastByte, Bool.eq_iff_iff, beq_iff_eq, decide_eq_true_iff, ← BitVec.toNat_inj, BitVec.toNat_sub]
  have hone : (1 : BitVec 4).toNat = 1 := rfl
  omega

theorem byteAt_eq (v : Vector Byte 9) (i : BitVec 4) : byteAt v i = v.toList.getD i.toNat 0 := by
  rw [byteAt, List.getD_eq_getElem?_getD]
  simp

theorem dataBit_eq {t : Tx} (h : t.byteIdx.toNat ≤ 8) :
    t.dataBit =
      if t.bitIdx.toNat < 8 then (t.txBytes.toList.getD t.byteIdx.toNat 0).getLsbD (7 - t.bitIdx.toNat)
      else decide (t.byteIdx.toNat + 1 = t.txLen.toNat) := by
  rw [Tx.dataBit, byteAt_eq, lastByte_eq h]

/-- Settles O16: DATA_SLOT is `dataSlot_eq`, the bit is `dataBit_eq`, and after the second half the branch of
`Tx.nextBit` is decided by the position. -/
theorem dataSlotSendsABitAndMovesOn : Obligations.DataSlotSendsABitAndMovesOn := by
  unfold Obligations.DataSlotSendsABitAndMovesOn
  intro s hbyte hbit i hi
  have hexec : exec i s =
      .next ((s.setTx (s.tx.dataSlot s.feed)).setOut { s.out with trackPol := !s.tx.halfSel }) := by
    simp only [List.mem_cons, List.not_mem_nil, or_false] at hi
    obtain rfl | rfl := hi
    · rw [exec_dataSlot, dataSlot_eq]
    · rw [exec_txsData, dataSlot_eq]
  dsimp only
  rw [hexec, ← dataBit_eq hbyte, ← lastByte_eq hbyte]
  refine ⟨fun hhalf => ?first, fun hhalf h7 => ?inside, fun hhalf h7 hmore => ?after, fun hhalf h8 hmore => ?next,
    fun hhalf hlast hat => ?last⟩
  case first =>
    rw [Tx.dataSlot_first hhalf, hhalf]
    rfl
  case inside =>
    rw [Tx.dataSlot_inside hhalf (Tx.lastBit_eq_false_iff.mpr (.inl h7)) h7.le, hhalf]
    rfl
  case after =>
    have hlast : s.tx.lastBit s.feed = false := Tx.lastBit_eq_false_iff.mpr (.inr (hmore.imp id fun h => ⟨h7, h⟩))
    rw [Tx.dataSlot_inside hhalf hlast h7.le, hhalf, add_one_of_seven h7]
    rfl
  case next =>
    rw [Tx.dataSlot_nextByte hhalf (Tx.lastBit_eq_false_iff.mpr (.inr (.inl hmore))) h8.ge, hhalf]
    rfl
  case last =>
    have hlastBit : s.tx.lastBit s.feed = true := Tx.lastBit_eq_true_iff.mpr ⟨hlast, hat.imp id fun h => h.ge⟩
    rw [Tx.dataSlot_last hhalf hlastBit, hhalf,
      Tx.endOfFrame, Feed.nextPreamble, Feed.toCutout, State.feed]
    refine ⟨fun hmode hinhibit => ?_, fun hmode => ?_, fun hmode => ?_⟩
    · rw [hmode, hinhibit]
      rfl
    · rw [hmode]
      rfl
    · obtain hmode | ⟨hmode, hinhibit⟩ := hmode
      · rw [hmode]
        rfl
      · rw [hmode, hinhibit]
        rfl

end Sys2Proof.Machine
end

section
/-! PROOFS. The RailCom cutout (41_cutout R140 to R151) and the receiver (20_memory R67): one equation per step, and what
any step leaves alone. -/

namespace Sys2Proof.Machine

/-! ## The receiver -/

theorem exec_rxbyte (b : Byte) (s : State) : exec (.rxbyte b) s = .next (rxAppend b s) := rfl

theorem rxAppend_kept {b : Byte} {s : State} (h : s.out.rxEn = true) (h' : s.rxFifo.length < s.cfg.rxDepth) :
    rxAppend b s = s.setRxFifo (s.rxFifo ++ [b]) := by
  rw [rxAppend, h, decide_eq_true h', Bool.and_self, if_pos rfl]

theorem rxAppend_lost {b : Byte} {s : State} (h : s.out.rxEn = false ∨ s.cfg.rxDepth ≤ s.rxFifo.length) :
    rxAppend b s = s := by
  refine if_neg fun hkept => ?_
  rw [Bool.and_eq_true, decide_eq_true_iff] at hkept
  obtain hoff | hfull := h
  · exact Bool.false_ne_true (hoff.symm.trans hkept.1)
  · omega

/-- Settles O29, by the two cases of `rxAppend`. -/
theorem receivedByteIsKeptOrLost : Obligations.ReceivedByteIsKeptOrLost := by
  unfold Obligations.ReceivedByteIsKeptOrLost
  intro b s
  rw [exec_rxbyte]
  exact ⟨fun h h' => by rw [rxAppend_kept h h', State.setRxFifo], fun h => by rw [rxAppend_lost h]⟩

/-! ## The steps one by one (R142 to R147, R150) -/

theorem coForcePos_eq (s : State) : coForcePos s =
    (s.setOut { s.out with trackPol := s.ctl.boosterOn || s.out.trackPol }).setTx { s.tx with cutoutStep := 2 } := by
  obtain ⟨hon, hdo⟩ | ⟨hoff, hskip⟩ := whenPowered_cases (fun s => s.setOut { s.out with trackPol := true }) s
  · rw [coForcePos, hdo, hon]; rfl
  · rw [coForcePos, hskip, hoff]; rfl

theorem coAssert_eq (s : State) : coAssert s =
    (s.setOut { s.out with cutoutAct := s.ctl.boosterOn || s.out.cutoutAct }).setTx { s.tx with cutoutStep := 3 } := by
  obtain ⟨hon, hdo⟩ | ⟨hoff, hskip⟩ := whenPowered_cases (fun s => s.setOut { s.out with cutoutAct := true }) s
  · rw [coAssert, hdo, hon]; rfl
  · rw [coAssert, hskip, hoff]; rfl

theorem coRxEnable_eq (s : State) : coRxEnable s =
    (s.setOut { s.out with rxEn := s.ctl.boosterOn || s.out.rxEn }).setTx { s.tx with cutoutStep := 5 } := by
  obtain ⟨hon, hdo⟩ | ⟨hoff, hskip⟩ := whenPowered_cases (fun s => s.setOut { s.out with rxEn := true }) s
  · rw [coRxEnable, hdo, hon]; rfl
  · rw [coRxEnable, hskip, hoff]; rfl

theorem coRxFlush_eq (s : State) : coRxFlush s =
    (s.setRxFifo (if s.ctl.boosterOn then [] else s.rxFifo)).setTx { s.tx with cutoutStep := 6 } := by
  obtain ⟨hon, hdo⟩ | ⟨hoff, hskip⟩ := whenPowered_cases rxFlush s
  · rw [coRxFlush, hdo, hon]; rfl
  · rw [coRxFlush, hskip, hoff]; rfl

theorem coEnd_eq (s : State) : coEnd s =
    ((s.setOut { s.out with cutoutAct := !s.ctl.boosterOn && s.out.cutoutAct }).setRxFifo
      (if s.ctl.boosterOn then [] else s.rxFifo)).setTx
      { s.tx with txState := .ready, halfTick := false, cutoutStep := 0 } := by
  obtain ⟨hon, hdo⟩ | ⟨hoff, hskip⟩ :=
    whenPowered_cases (fun s => rxFlush (s.setOut { s.out with cutoutAct := false })) s
  · rw [coEnd, hdo, hon]; rfl
  · rw [coEnd, hskip, hoff]; rfl

/-- Settles O24, by the equations of the steps. -/
theorem cutoutStepsBeforeTheReads : Obligations.CutoutStepsBeforeTheReads := by
  unfold Obligations.CutoutStepsBeforeTheReads
  intro s
  have assert : exec .coAssert s = _ := congrArg Host.Outcome.next (coAssert_eq s)
  have enable : exec .coRxEnable s = _ := congrArg Host.Outcome.next (coRxEnable_eq s)
  refine ⟨rfl, congrArg Host.Outcome.next (coForcePos_eq s), assert, enable, congrArg Host.Outcome.next (coRxFlush_eq s),
    fun t hon hexec => ?driven, fun t b hon hroom hexec => ?append⟩
  case driven =>
    rw [assert, hon] at hexec
    obtain rfl := Host.Outcome.next.inj hexec
    exact Bool.and_false _
  case append =>
    rw [enable, hon] at hexec
    obtain rfl := Host.Outcome.next.inj hexec
    exact (exec_rxbyte b _).trans (congrArg Host.Outcome.next (rxAppend_kept rfl hroom))

/-- Settles O26: a step without action is `coIdle`, the last one `coEnd_eq`. -/
theorem cutoutIdleStepsAndEnd : Obligations.CutoutIdleStepsAndEnd := by
  unfold Obligations.CutoutIdleStepsAndEnd
  refine fun s => ⟨fun i hi => ?idle, congrArg Host.Outcome.next (coEnd_eq s)⟩
  simp only [List.mem_cons, List.not_mem_nil, or_false] at hi
  obtain rfl | rfl | rfl | rfl | rfl | rfl | rfl | rfl | rfl | rfl | rfl := hi <;> rfl

/-! ## The reads (R148, R149) -/

theorem coReadCh1_powered {s : State} (h : s.ctl.boosterOn = true) :
    coReadCh1 s = toStep 10 (ch1Decode s.rxFifo (s.setRxFifo [])) := by
  rw [coReadCh1, whenPowered, if_pos h, rxReadAll_eq, rxDrain_eq]

theorem coReadCh1_unpowered {s : State} (h : s.ctl.boosterOn = false) : coReadCh1 s = toStep 10 s := by
  rw [coReadCh1, whenPowered, h, if_neg Bool.false_ne_true]

theorem coReadCh2_powered {s : State} (h : s.ctl.boosterOn = true) :
    coReadCh2 s = toStep 18 (rxDisable (ch2Decode s.rxFifo s.tx.txLocoIdx (s.setRxFifo []))) := by
  rw [coReadCh2, whenPowered, if_pos h, rxReadAll_eq, rxDrain_eq]

theorem coReadCh2_unpowered {s : State} (h : s.ctl.boosterOn = false) : coReadCh2 s = toStep 18 s := by
  rw [coReadCh2, whenPowered, h, if_neg Bool.false_ne_true]

theorem Ch2Counts.writes {counts : Bool} {idx : BitVec 8} {s t : State} (h : Ch2Counts counts idx s t) :
    ∃ r x log st, s.rc2.Grows r ∧ XpomGuarded s.xpom x ∧
      t = (((s.setRc2 r).setXpom x).setRaised log).setStat st := by
  obtain ⟨r, x, log, hr, hx, h⟩ := h
  cases counts with
  | true => exact ⟨r, x, log, _, hr, hx, h.trans (updStat_eq _ _ _)⟩
  | false =>
    obtain h | h := h
    · exact ⟨r, x, log, s.stat, hr, hx, h⟩
    · exact ⟨r, x, log, _, hr, hx, h.trans (updStat_eq _ _ _)⟩

/-- A channel-2 decode writes the channel-2 records, the XPOM table, the ghost log and the statistics only. -/
theorem ch2Decode_writes (raw : List Byte) (idx : BitVec 8) (s : State) :
    ∃ r x log st, s.rc2.Grows r ∧ XpomGuarded s.xpom x ∧
      ch2Decode raw idx s = (((s.setRc2 r).setXpom x).setRaised log).setStat st := by
  have hcommand : statCommand idx s = s.setStat (statCommand idx s).stat := updStat_writes_stat s idx _
  obtain ⟨r, x, log, st, hr, hx, hbody⟩ := (ch2Body_counts raw idx (statCommand idx s)).writes
  rw [hcommand] at hr hx
  have hrotate : ch2Decode raw idx s = (ch2Body raw idx (statCommand idx s)).setStat _ := updStat_writes_stat _ idx _
  exact ⟨r, x, log, _, hr, hx, hrotate.trans (by rw [hbody, hcommand]; rfl)⟩

/-- Settles O25: powered, the steps hand the drained FIFO to the decoders, which leave the FIFO, and on channel 1 the
outputs, alone. -/
theorem cutoutReadStepsDecodeAndDrain : Obligations.CutoutReadStepsDecodeAndDrain := by
  unfold Obligations.CutoutReadStepsDecodeAndDrain
  refine fun s => ⟨fun hon => ⟨⟨_, exec_ch1dec _ _, ?fifo1, ?out1, ?read1⟩, ⟨_, rfl, ?fifo2, ?read2⟩⟩,
    fun hoff => ⟨?skip1, ?skip2⟩⟩
  case fifo1 =>
    obtain ⟨r, log, h⟩ := ch1Decode_writes s.rxFifo { s with rxFifo := [] }
    rw [h]; rfl
  case out1 =>
    obtain ⟨r, log, h⟩ := ch1Decode_writes s.rxFifo { s with rxFifo := [] }
    rw [h]; rfl
  case read1 =>
    have hexec : exec .coReadCh1 s = .next (coReadCh1 s) := rfl
    rw [hexec, coReadCh1_powered hon]
    rfl
  case fifo2 =>
    obtain ⟨r, x, log, st, -, -, h⟩ := ch2Decode_writes s.rxFifo s.tx.txLocoIdx { s with rxFifo := [] }
    rw [h]; rfl
  case read2 =>
    have hexec : exec .coReadCh2 s = .next (coReadCh2 s) := rfl
    rw [hexec, coReadCh2_powered hon]
    rfl
  case skip1 => exact congrArg Host.Outcome.next (coReadCh1_unpowered hoff)
  case skip2 => exact congrArg Host.Outcome.next (coReadCh2_unpowered hoff)

end Sys2Proof.Machine
end

section
/-! PROOFS. The tick (40_tick R110 to R113). What it makes of the transmitter is a function of the transmitter and its
feed alone; what else it writes is the frame `TickFrame`. -/

namespace Sys2Proof.Machine

/-! ## What a tick makes of the transmitter -/

/-- Slot() (R113). -/
def Tx.slot (f : Feed) (t : Tx) : Tx :=
  match t.txState with
  | .ready => (t.ready f).preSlot
  | .preamble => t.preSlot
  | .data => t.dataSlot f
  | .cutout => t

/-- Divided() (R111). -/
def Tx.divided (f : Feed) (t : Tx) : Tx :=
  if t.halfTick then { t with halfTick := false }
  else if t.longPulse then { t with halfTick := true, longPulse := false }
  else ({ t with halfTick := true } : Tx).slot f

/-- A cutout step (R141 to R150). -/
def Tx.cutoutTick (t : Tx) : Tx :=
  if t.cutoutStep = 18 then { t with txState := .ready, halfTick := false, cutoutStep := 0 }
  else { t with cutoutStep := t.cutoutStep + 1 }

/-- The tick runs a cutout step (R110). -/
def Tx.inCutout (t : Tx) : Bool := t.txState == .cutout && !t.cutoutHeld

/-- TICK (R110). -/
def Tx.tick (f : Feed) (t : Tx) : Tx :=
  if t.inCutout then t.cutoutTick else t.divided f

section
variable {t : Tx} {f : Feed}

theorem Tx.inCutout_eq_true_iff :
    t.inCutout = true ↔ t.txState = .cutout ∧ ¬ (t.cutoutStep = 0 ∧ t.longPulse = true) := by
  rw [Tx.inCutout, Bool.and_eq_true, beq_iff_eq, Bool.not_eq_true', Tx.cutoutHeld, ← Bool.not_eq_true, Bool.and_eq_true,
    beq_iff_eq]

theorem Tx.inCutout_eq_false_iff :
    t.inCutout = false ↔ t.txState ≠ .cutout ∨ (t.cutoutStep = 0 ∧ t.longPulse = true) := by
  rw [← Bool.not_eq_true, Tx.inCutout_eq_true_iff, not_and_or, not_not]

theorem Tx.tick_inCutout (h : t.inCutout = true) : t.tick f = t.cutoutTick := if_pos h

theorem Tx.tick_divides (h : t.inCutout = false) : t.tick f = t.divided f := by
  rw [Tx.tick, h, if_neg Bool.false_ne_true]

theorem Tx.divided_idle (h : t.halfTick = true) : t.divided f = { t with halfTick := false } := if_pos h

theorem Tx.divided_extra (h : t.halfTick = false) (hlong : t.longPulse = true) :
    t.divided f = { t with halfTick := true, longPulse := false } := by
  rw [Tx.divided, h, hlong, if_neg Bool.false_ne_true, if_pos rfl]

theorem Tx.divided_slot (h : t.halfTick = false) (hlong : t.longPulse = false) :
    t.divided f = ({ t with halfTick := true } : Tx).slot f := by
  rw [Tx.divided, h, hlong, if_neg Bool.false_ne_true, if_neg Bool.false_ne_true]

theorem Tx.slot_ready (h : t.txState = .ready) : t.slot f = (t.ready f).preSlot := by
  rw [Tx.slot, h]

theorem Tx.slot_preamble (h : t.txState = .preamble) : t.slot f = t.preSlot := by
  rw [Tx.slot, h]

theorem Tx.slot_data (h : t.txState = .data) : t.slot f = t.dataSlot f := by
  rw [Tx.slot, h]

theorem Tx.cutoutTick_of_toNat {n : Nat} (h : t.cutoutStep.toNat = n) (hn : n ≠ 18) :
    t.cutoutTick = { t with cutoutStep := BitVec.ofNat 5 (n + 1) } := by
  have hne : ¬ t.cutoutStep = 18 := fun heq => hn (h.symm.trans (by rw [heq]; rfl))
  rw [Tx.cutoutTick, if_neg hne, ← h, BitVec.ofNat_add, BitVec.ofNat_toNat, BitVec.setWidth_eq]
  rfl

end

/-! ## The divided engine -/

/-- The outputs after a slot. -/
def State.slotOut (s : State) : Out :=
  match s.tx.txState with
  | .ready =>
    { s.out with
      trackPol := true
      trackEn := s.ctl.boosterOn || s.out.trackEn
      flowContinue := s.busy || s.out.flowContinue }
  | .preamble => { s.out with trackPol := !s.tx.halfSel }
  | .data => { s.out with trackPol := !s.tx.halfSel }
  | .cutout => s.out

/-- The packet slot after a slot: READY releases it. -/
def State.slotBuf (s : State) : Slot :=
  match s.tx.txState with
  | .ready => { s.buf with bufLen := 0 }
  | .preamble => s.buf
  | .data => s.buf
  | .cutout => s.buf

theorem slot_eq (s : State) :
    Machine.slot s = ((s.setTx (s.tx.slot s.feed)).setBuf s.slotBuf).setOut s.slotOut := by
  unfold Machine.slot Tx.slot State.slotBuf State.slotOut
  cases s.tx.txState with
  | ready =>
    show Machine.preSlot (Machine.ready s) = _
    rw [preSlot_eq, ready_eq]
    rfl
  | preamble => exact preSlot_eq s
  | data => exact dataSlot_eq s
  | cutout => rfl

section
variable {s : State}

theorem divided_idle (h : s.tx.halfTick = true) : Machine.divided s = s.setTx { s.tx with halfTick := false } := if_pos h

theorem divided_extra (h : s.tx.halfTick = false) (hlong : s.tx.longPulse = true) :
    Machine.divided s = s.setTx { s.tx with halfTick := true, longPulse := false } := by
  rw [Machine.divided, h, hlong, if_neg Bool.false_ne_true, if_pos rfl]

theorem divided_slot (h : s.tx.halfTick = false) (hlong : s.tx.longPulse = false) :
    Machine.divided s = Machine.slot (s.setTx { s.tx with halfTick := true }) := by
  rw [Machine.divided, h, hlong, if_neg Bool.false_ne_true, if_neg Bool.false_ne_true]

end

theorem divided_tx (s : State) : (Machine.divided s).tx = s.tx.divided s.feed := by
  cases hhalf : s.tx.halfTick with
  | true => rw [divided_idle hhalf, Tx.divided_idle hhalf]; rfl
  | false =>
    cases hlong : s.tx.longPulse with
    | true => rw [divided_extra hhalf hlong, Tx.divided_extra hhalf hlong]; rfl
    | false => rw [divided_slot hhalf hlong, Tx.divided_slot hhalf hlong, slot_eq]; rfl

/-! ## The tick -/

theorem tickPrologue_eq (s : State) : tickPrologue s = s.ticked := by
  rw [tickPrologue, timeAdvance_eq]
  rfl

theorem exec_tick (s : State) : exec .tick s = .next (tick s) := rfl

theorem tick_inCutout {s : State} (h : s.tx.inCutout = true) : tick s = cutoutStep s.ticked := by
  obtain ⟨hstate, hheld⟩ := Bool.and_eq_true _ _ ▸ h
  have hstate' : s.ticked.tx.txState = .cutout := eq_of_beq hstate
  have hheld' : s.ticked.tx.cutoutHeld = false := Bool.not_eq_true' _ ▸ hheld
  rw [tick, tickPrologue_eq, tickBody, hstate', hheld']
  rfl

theorem tick_divides {s : State} (h : s.tx.inCutout = false) : tick s = Machine.divided s.ticked := by
  rw [tick, tickPrologue_eq, tickBody]
  have hin : s.ticked.tx.inCutout = false := h
  cases hstate : s.ticked.tx.txState with
  | cutout =>
    rw [Tx.inCutout, hstate] at hin
    have hheld : s.ticked.tx.cutoutHeld = true := Bool.not_eq_false' _ ▸ hin
    rw [hheld]
    rfl
  | ready => rfl
  | preamble => rfl
  | data => rfl

theorem State.divides_iff {s : State} : s.divides ↔ s.tx.inCutout = false := Tx.inCutout_eq_false_iff.symm

/-- Settles O11: the three cases of the divided engine, and a slot is the row of `tx_state`. -/
theorem tickRunsTheDividedEngine : Obligations.TickRunsTheDividedEngine := by
  unfold Obligations.TickRunsTheDividedEngine
  intro s hdivides
  rw [exec_tick, tick_divides (State.divides_iff.mp hdivides)]
  refine ⟨fun hhalf => ?idle, fun hhalf hlong => ?extra, fun hhalf hlong i hi => ?slot⟩
  case idle =>
    rw [divided_idle (s := s.ticked) hhalf]
    rfl
  case extra =>
    rw [divided_extra (s := s.ticked) hhalf hlong]
    rfl
  case slot =>
    refine ⟨_, ?_, congrArg Host.Outcome.next (divided_slot (s := s.ticked) hhalf hlong)⟩
    rw [decode_txState s.tx.txState.code.isLt] at hi
    cases hstate : s.tx.txState with
    | ready | preamble | data =>
      rw [hstate] at hi
      obtain rfl := Except.ok.inj hi
      rw [Machine.slot, show (s.ticked.setTx { s.ticked.tx with halfTick := true }).tx.txState = _ from hstate]
      rfl
    | cutout =>
      obtain ⟨-, htrue⟩ : s.tx.cutoutStep = 0 ∧ s.tx.longPulse = true := hdivides.resolve_left fun h => h hstate
      exact absurd (hlong.symm.trans htrue) Bool.false_ne_true

/-- `cutoutStep` runs the row of the step. -/
theorem exec_of_decodeCutoutStep {n : Nat} {i : Instr} (h : decodeCutoutStep n = .ok i) {s : State}
    (hn : s.tx.cutoutStep.toNat = n) : exec i s = .next (cutoutStep s) := by
  unfold decodeCutoutStep at h
  split at h
  case h_20 => cases h
  all_goals
    obtain rfl := Except.ok.inj h
    rw [cutoutStep, hn]
    rfl

/-- Settles O12: `cutoutStep` and the decoder select by the same code. -/
theorem tickInCutoutRunsTheStepOfTheTable : Obligations.TickInCutoutRunsTheStepOfTheTable := by
  unfold Obligations.TickInCutoutRunsTheStepOfTheTable
  refine ⟨fun s i hi => ?row, fun s h => ?reserved⟩
  case row =>
    have hrow (u : State) (hu : u.tx.cutoutStep = s.tx.cutoutStep) : exec i u = .next (cutoutStep u) := by
      rw [decode_cutoutStep s.tx.cutoutStep.isLt] at hi
      exact exec_of_decodeCutoutStep hi (congrArg BitVec.toNat hu)
    exact ⟨⟨_, hrow s rfl, rfl⟩, fun hstate hheld => ⟨_, hrow s.ticked rfl,
      congrArg Host.Outcome.next (tick_inCutout (Tx.inCutout_eq_true_iff.mpr ⟨hstate, hheld⟩))⟩⟩
  case reserved =>
    have hexec : exec .txsCutout s = .next (cutoutStep s) := rfl
    rw [hexec, cutoutStep]
    split
    case h_9 => rfl
    all_goals omega

end Sys2Proof.Machine
end

section
/-! PROOFS. What a tick writes (10_state R43): the cutout steps, the frame of a tick, and the time it counts. -/

namespace Sys2Proof.Machine

/-! ## The statistics table of the invariant -/

/-- The statistics table is in canonical form, inside N_LOCO, and every entry is counted (R42 (e)). -/
structure State.StatsKept (s : State) : Prop where
  form : Memory.wf StatEntry.zero s.stat
  bound : ∀ p ∈ s.stat, p.1 < s.cfg.nLoco
  counted : ∀ k, (s.statAt k).Counted

theorem ch2Decode_statsKept (raw : List Byte) (idx : BitVec 8) {s : State} (h : s.StatsKept) :
    (ch2Decode raw idx s).StatsKept := by
  have htouches := ch2Decode_touches raw idx s
  have hbound := htouches.bound h.bound
  refine ⟨htouches.wf h.form, hbound, fun k => ?_⟩
  by_cases hk : k = idx
  · subst hk
    by_cases hslot : k.toNat < s.cfg.nLoco
    · obtain ⟨g, hg, hentry⟩ := statAt_ch2Decode raw h.form hslot
      rw [hentry]
      exact (StatEntry.Added.of_read hg (h.counted k)).counted_rotate (Bool.toNat_le _) (h.counted k) (h.counted k).filling
    · have hread : (ch2Decode raw k s).statAt k = StatEntry.zero :=
        Memory.read_eq_default hbound (htouches.cfg ▸ Nat.le_of_not_lt hslot)
      exact hread ▸ StatEntry.counted_zero
  · rw [htouches.other k hk]
    exact h.counted k

/-! ## The frame of a tick -/

/-- What a tick leaves alone without track power (R151). -/
structure Unpowered (s t : State) : Prop where
  rc1 : t.rc1 = s.rc1
  rc2 : t.rc2 = s.rc2
  xpom : t.xpom = s.xpom
  stat : t.stat = s.stat
  rxFifo : t.rxFifo = s.rxFifo
  trackEn : t.out.trackEn = s.out.trackEn
  cutoutAct : t.out.cutoutAct = s.out.cutoutAct
  rxEn : t.out.rxEn = s.out.rxEn

/-- What a tick, once it has advanced the time, writes outside the transmitter (R43). -/
structure TickFrame (s t : State) : Prop extends SameSetting s t where
  ctl : t.ctl = s.ctl
  locoAddr : t.locoAddr = s.locoAddr
  response : t.response = s.response
  time : t.time = s.time
  buf : t.buf = s.buf ∨ t.buf = { s.buf with bufLen := 0 }
  rc2 : s.rc2.Grows t.rc2
  xpom : XpomGuarded s.xpom t.xpom
  stat : ∀ k, k ≠ s.tx.txLocoIdx → t.statAt k = s.statAt k
  statsKept : s.StatsKept → t.StatsKept
  cutoutAct : t.out.cutoutAct = true → s.out.cutoutAct = true ∨ s.ctl.boosterOn = true
  rxEn : t.out.rxEn = true → s.out.rxEn = true ∨ s.ctl.boosterOn = true
  fifo : t.rxFifo = s.rxFifo ∨ t.rxFifo = []
  unpowered : s.ctl.boosterOn = false → Unpowered s t

theorem Unpowered.refl (s : State) : Unpowered s s := ⟨rfl, rfl, rfl, rfl, rfl, rfl, rfl, rfl⟩

theorem TickFrame.refl (s : State) : TickFrame s s where
  toSameSetting := .refl s
  ctl := rfl
  locoAddr := rfl
  response := rfl
  time := rfl
  buf := .inl rfl
  rc2 := .refl _
  xpom := fun _ _ => rfl
  stat := fun _ _ => rfl
  statsKept := id
  cutoutAct := .inl
  rxEn := .inl
  fifo := .inl rfl
  unpowered := fun _ => .refl s

section
variable {s t : State}

/-- A write of the transmitter is inside the frame, before or after anything else that keeps the loco index. -/
theorem TickFrame.setTx (h : TickFrame s t) (x : Tx) : TickFrame s (t.setTx x) :=
  { h with
    statsKept := fun hs => { h.statsKept hs with }
    unpowered := fun hoff => { h.unpowered hoff with } }

theorem TickFrame.of_setTx {x : Tx} (hidx : x.txLocoIdx = s.tx.txLocoIdx) (h : TickFrame (s.setTx x) t) : TickFrame s t :=
  { h with
    stat := fun k hk => h.stat k fun heq => hk (heq.trans hidx)
    statsKept := fun hs => h.statsKept { hs with }
    unpowered := fun hoff => { h.unpowered hoff with } }

end

theorem slot_frame (s : State) : TickFrame s (Machine.slot s) := by
  have same := TickFrame.refl s
  rw [slot_eq]
  cases hstate : s.tx.txState with
  | ready =>
    rw [State.slotBuf, State.slotOut, hstate]
    exact { same with
      buf := .inr rfl
      statsKept := fun hs => { hs with }
      unpowered := fun hoff => { Unpowered.refl s with trackEn := by rw [hoff]; rfl } }
  | preamble | data | cutout =>
    rw [State.slotBuf, State.slotOut, hstate]
    exact { same with
      statsKept := fun hs => { hs with }
      unpowered := fun _ => { Unpowered.refl s with } }

theorem divided_frame (s : State) : TickFrame s (Machine.divided s) := by
  cases hhalf : s.tx.halfTick with
  | true =>
    rw [divided_idle hhalf]
    exact (TickFrame.refl s).setTx _
  | false =>
    cases hlong : s.tx.longPulse with
    | true =>
      rw [divided_extra hhalf hlong]
      exact (TickFrame.refl s).setTx _
    | false =>
      rw [divided_slot hhalf hlong]
      exact .of_setTx (x := { s.tx with halfTick := true }) rfl (slot_frame _)

/-! ## The cutout steps -/

theorem coReadCh1_frame (s : State) : TickFrame s (coReadCh1 s) := by
  cases hon : s.ctl.boosterOn with
  | false =>
    rw [coReadCh1_unpowered hon]
    exact (TickFrame.refl s).setTx _
  | true =>
    obtain ⟨r, log, h⟩ := ch1Decode_writes s.rxFifo (s.setRxFifo [])
    rw [coReadCh1_powered hon, h]
    exact { TickFrame.refl s with
      fifo := .inr rfl
      statsKept := fun hs => { hs with }
      unpowered := fun hoff => absurd (hon.symm.trans hoff) Bool.noConfusion }

theorem coReadCh2_frame (s : State) : TickFrame s (coReadCh2 s) := by
  cases hon : s.ctl.boosterOn with
  | false =>
    rw [coReadCh2_unpowered hon]
    exact (TickFrame.refl s).setTx _
  | true =>
    have hother := (ch2Decode_touches s.rxFifo s.tx.txLocoIdx (s.setRxFifo [])).other
    have hkept := ch2Decode_statsKept s.rxFifo s.tx.txLocoIdx (s := s.setRxFifo [])
    obtain ⟨r, x, log, st, hr, hx, h⟩ := ch2Decode_writes s.rxFifo s.tx.txLocoIdx (s.setRxFifo [])
    rw [h] at hother hkept
    rw [coReadCh2_powered hon, h]
    exact { TickFrame.refl s with
      rc2 := hr
      xpom := hx
      stat := hother
      statsKept := fun hs => { hkept { hs with } with }
      rxEn := nofun
      fifo := .inr rfl
      unpowered := fun hoff => absurd (hon.symm.trans hoff) Bool.noConfusion }

theorem cutoutStep_frame (s : State) : TickFrame s (cutoutStep s) := by
  have same := TickFrame.refl s
  have powered {b c : Bool} (h : (b || c) = true) : c = true ∨ b = true := (Bool.or_eq_true _ _ ▸ h).symm
  unfold cutoutStep
  split
  case h_1 => exact same.setTx _
  case h_2 =>
    rw [coForcePos_eq]
    exact { same with
      statsKept := fun hs => { hs with }, unpowered := fun _ => { Unpowered.refl s with } }
  case h_3 =>
    rw [coAssert_eq]
    exact { same with
      statsKept := fun hs => { hs with }, cutoutAct := powered
      unpowered := fun hoff => { Unpowered.refl s with cutoutAct := by rw [hoff]; rfl } }
  case h_4 =>
    rw [coRxEnable_eq]
    exact { same with
      statsKept := fun hs => { hs with }, rxEn := powered
      unpowered := fun hoff => { Unpowered.refl s with rxEn := by rw [hoff]; rfl } }
  case h_5 =>
    rw [coRxFlush_eq]
    exact { same with
      statsKept := fun hs => { hs with }
      fifo := (ite_eq_or_eq _ _ _).symm
      unpowered := fun hoff => { Unpowered.refl s with rxFifo := by rw [hoff]; rfl } }
  case h_6 => exact coReadCh1_frame s
  case h_7 => exact coReadCh2_frame s
  case h_8 =>
    rw [coEnd_eq]
    exact { same with
      statsKept := fun hs => { hs with }
      cutoutAct := fun h => .inl (Bool.and_eq_true _ _ ▸ h).2
      fifo := (ite_eq_or_eq _ _ _).symm
      unpowered := fun hoff => { Unpowered.refl s with rxFifo := by rw [hoff]; rfl, cutoutAct := by rw [hoff]; rfl } }
  case h_9 => exact same.setTx _

theorem tick_frame (s : State) : TickFrame s.ticked (tick s) := by
  cases hin : s.tx.inCutout with
  | true =>
    rw [tick_inCutout hin]
    exact cutoutStep_frame _
  | false =>
    rw [tick_divides hin]
    exact divided_frame _

/-- Settles O58: the frame of a tick, read off. -/
theorem tickWritesOnlyWhatItOwns : Obligations.TickWritesOnlyWhatItOwns := by
  unfold Obligations.TickWritesOnlyWhatItOwns
  intro s t hexec
  obtain rfl := Host.Outcome.next.inj hexec
  have hframe := tick_frame s
  have hbuf : (tick s).buf = { s.buf with bufLen := (tick s).buf.bufLen } ∧
      ((tick s).buf.bufLen = s.buf.bufLen ∨ (tick s).buf.bufLen = 0) := by
    obtain h | h := hframe.buf <;> rw [h]
    · exact ⟨rfl, .inl rfl⟩
    · exact ⟨rfl, .inr rfl⟩
  refine ⟨hframe.ctl, hbuf.1, hbuf.2, hframe.locoAddr, hframe.cfg, hframe.response, hframe.rc2.addr, hframe.rc2.cv,
    hframe.rc2.dyn, hframe.xpom, hframe.stat, fun hoff => ?_⟩
  obtain ⟨hrc1, hrc2, hxpom, hstat, hfifo, htrack, hact, hrx⟩ := hframe.unpowered hoff
  exact ⟨hrc1, hrc2, hxpom, hstat, hfifo, htrack, hact, hrx⟩

/-! ## The transmitter and the slot after a tick -/

theorem toStep_whenPowered_tx {k : BitVec 5} {f : State → State} {s : State} (hf : (f s).tx = s.tx) :
    (toStep k (whenPowered f s)).tx = { s.tx with cutoutStep := k } := by
  obtain ⟨-, h⟩ | ⟨-, h⟩ := whenPowered_cases f s
  · rw [h, toStep, hf]; rfl
  · rw [h]; rfl

theorem coReadCh1_tx (s : State) : (coReadCh1 s).tx = { s.tx with cutoutStep := 10 } := by
  obtain ⟨r, log, h⟩ := ch1Decode_writes s.rxFifo (s.setRxFifo [])
  exact toStep_whenPowered_tx (by rw [rxReadAll_eq, rxDrain_eq, h]; rfl)

theorem coReadCh2_tx (s : State) : (coReadCh2 s).tx = { s.tx with cutoutStep := 18 } := by
  obtain ⟨r, x, log, st, -, -, h⟩ := ch2Decode_writes s.rxFifo s.tx.txLocoIdx (s.setRxFifo [])
  exact toStep_whenPowered_tx (by rw [rxReadAll_eq, rxDrain_eq, h]; rfl)

theorem cutoutStep_tx (s : State) : (cutoutStep s).tx = s.tx.cutoutTick := by
  have next {n : Nat} (h : s.tx.cutoutStep.toNat = n) (hn : n ≠ 18) := (Tx.cutoutTick_of_toNat h hn).symm
  unfold cutoutStep
  split
  case h_1 h => exact next h (by decide)
  case h_2 h => exact (toStep_whenPowered_tx rfl).trans (next h (by decide))
  case h_3 h => exact (toStep_whenPowered_tx rfl).trans (next h (by decide))
  case h_4 h => exact (toStep_whenPowered_tx rfl).trans (next h (by decide))
  case h_5 h => exact (toStep_whenPowered_tx rfl).trans (next h (by decide))
  case h_6 h => exact (coReadCh1_tx s).trans (next h (by decide))
  case h_7 h => exact (coReadCh2_tx s).trans (next h (by decide))
  case h_8 h =>
    have h18 : s.tx.cutoutStep = 18 := BitVec.eq_of_toNat_eq h
    rw [coEnd_eq, Tx.cutoutTick, if_pos h18]
    rfl
  case h_9 _ _ _ _ _ _ _ h =>
    have h18 : ¬ s.tx.cutoutStep = 18 := fun heq => h (by rw [heq]; rfl)
    rw [Tx.cutoutTick, if_neg h18]
    rfl

theorem tick_tx (s : State) : (tick s).tx = s.tx.tick s.feed := by
  cases hin : s.tx.inCutout with
  | true => rw [tick_inCutout hin, cutoutStep_tx, Tx.tick_inCutout hin]; rfl
  | false => rw [tick_divides hin, divided_tx, Tx.tick_divides hin]; rfl

end Sys2Proof.Machine
end

section
/-! PROOFS. Runs of ticks: the outputs and the slot after a tick, the time a run counts, and the cutout from its first
to its last tick (40_tick R112, R123, 41_cutout R151, R152). -/

namespace Sys2Proof.Machine

/-! ## The outputs and the slot after a cutout step -/

/-- What the cutout step `k` makes of the outputs, with (`on`) or without track power (R143 to R150). -/
def Out.cutoutTick (on : Bool) (k : Nat) (o : Out) : Out :=
  { o with
    trackPol := on && decide (k = 1) || o.trackPol
    cutoutAct := on && decide (k = 2) || !(on && decide (k = 18)) && o.cutoutAct
    rxEn := on && decide (k = 4) || !(on && decide (k = 17)) && o.rxEn }

theorem whenPowered_off {s : State} (f : State → State) (h : s.ctl.boosterOn = false) : whenPowered f s = s := by
  rw [whenPowered, h, if_neg Bool.false_ne_true]

theorem coReadCh1_out (s : State) : (coReadCh1 s).out = s.out := by
  cases hon : s.ctl.boosterOn with
  | false => rw [coReadCh1_unpowered hon]; rfl
  | true =>
    obtain ⟨r, log, h⟩ := ch1Decode_writes s.rxFifo (s.setRxFifo [])
    rw [coReadCh1_powered hon, h]
    rfl

theorem coReadCh2_out (s : State) : (coReadCh2 s).out = { s.out with rxEn := !s.ctl.boosterOn && s.out.rxEn } := by
  cases hon : s.ctl.boosterOn with
  | false => rw [coReadCh2_unpowered hon]; rfl
  | true =>
    obtain ⟨r, x, log, st, -, -, h⟩ := ch2Decode_writes s.rxFifo s.tx.txLocoIdx (s.setRxFifo [])
    rw [coReadCh2_powered hon, h]
    rfl

theorem cutoutStep_out (s : State) :
    (cutoutStep s).out = s.out.cutoutTick s.ctl.boosterOn s.tx.cutoutStep.toNat := by
  unfold cutoutStep
  split
  case h_1 h => rw [h]; simp [Out.cutoutTick, coNop0, toStep]
  case h_2 h => rw [h, coForcePos_eq]; simp [Out.cutoutTick]
  case h_3 h => rw [h, coAssert_eq]; simp [Out.cutoutTick]
  case h_4 h => rw [h, coRxEnable_eq]; simp [Out.cutoutTick]
  case h_5 h => rw [h, coRxFlush_eq]; simp [Out.cutoutTick]
  case h_6 h => rw [h, coReadCh1_out]; simp [Out.cutoutTick]
  case h_7 h => rw [h, coReadCh2_out]; simp [Out.cutoutTick]
  case h_8 h => rw [h, coEnd_eq]; simp [Out.cutoutTick]
  case h_9 => simp_all [Out.cutoutTick, coIdle, toStep]

theorem cutoutStep_buf (s : State) : (cutoutStep s).buf = s.buf := by
  have keeps {k : BitVec 5} {f : State → State} (hf : (f s).buf = s.buf) : (toStep k (whenPowered f s)).buf = s.buf := by
    obtain ⟨-, h⟩ | ⟨-, h⟩ := whenPowered_cases f s
    · rw [h, toStep, State.setTx_buf, hf]
    · rw [h]; rfl
  unfold cutoutStep
  split
  case h_1 => rfl
  case h_2 => exact keeps rfl
  case h_3 => exact keeps rfl
  case h_4 => exact keeps rfl
  case h_5 => exact keeps rfl
  case h_6 =>
    obtain ⟨r, log, h⟩ := ch1Decode_writes s.rxFifo (s.setRxFifo [])
    exact keeps (by rw [rxReadAll_eq, rxDrain_eq, h]; rfl)
  case h_7 =>
    obtain ⟨r, x, log, st, -, -, h⟩ := ch2Decode_writes s.rxFifo s.tx.txLocoIdx (s.setRxFifo [])
    exact keeps (by rw [rxReadAll_eq, rxDrain_eq, h]; rfl)
  case h_8 => rw [coEnd_eq]; rfl
  case h_9 => rfl

theorem cutoutStep_unpowered {s : State} (h : s.ctl.boosterOn = false) : cutoutStep s = s.setTx s.tx.cutoutTick := by
  have next {n : Nat} (h : s.tx.cutoutStep.toNat = n) (hn : n ≠ 18) :=
    congrArg s.setTx (Tx.cutoutTick_of_toNat h hn).symm
  have skip (k : BitVec 5) (f : State → State) : toStep k (whenPowered f s) = toStep k s :=
    congrArg (toStep k) (whenPowered_off f h)
  unfold cutoutStep
  split
  case h_1 h => exact next h (by decide)
  case h_2 h => exact (skip _ _).trans (next h (by decide))
  case h_3 h => exact (skip _ _).trans (next h (by decide))
  case h_4 h => exact (skip _ _).trans (next h (by decide))
  case h_5 h => exact (skip _ _).trans (next h (by decide))
  case h_6 h => exact (skip _ _).trans (next h (by decide))
  case h_7 h => exact (skip _ _).trans (next h (by decide))
  case h_8 h18 =>
    have h18 : s.tx.cutoutStep = 18 := BitVec.eq_of_toNat_eq h18
    rw [coEnd, whenPowered_off _ h, Tx.cutoutTick, if_pos h18]
  case h_9 _ _ _ _ _ _ _ h =>
    have h18 : ¬ s.tx.cutoutStep = 18 := fun heq => h (by rw [heq]; rfl)
    rw [Tx.cutoutTick, if_neg h18]
    rfl

/-- Settles O27: an unpowered step is `cutoutStep_unpowered`. -/
theorem unpoweredCutoutTickOnlyCounts : Obligations.UnpoweredCutoutTickOnlyCounts := by
  unfold Obligations.UnpoweredCutoutTickOnlyCounts
  intro s hstate hoff _ hheld
  rw [exec_tick, tick_inCutout (Tx.inCutout_eq_true_iff.mpr ⟨hstate, hheld⟩), cutoutStep_unpowered (s := s.ticked) hoff,
    Tx.cutoutTick]
  by_cases h18 : s.tx.cutoutStep = 18
  · rw [if_pos h18, if_pos (show s.ticked.tx.cutoutStep = 18 from h18)]
    rfl
  · rw [if_neg h18, if_neg (show ¬ s.ticked.tx.cutoutStep = 18 from h18)]
    rfl

/-! ## The slot and the outputs after a tick -/

/-- In a slot that finds READY: the half-bit starts, the slot is released, `flow_continue` says so (R113, R114). -/
theorem tick_atReadySlot {s : State} (h : s.atReadySlot) :
    (tick s).buf = { s.buf with bufLen := 0 } ∧ (tick s).out.trackPol = true ∧ (tick s).out.flowContinue = s.busy := by
  obtain ⟨hstate, hhalf, hlong⟩ := h
  have hin : s.tx.inCutout = false := Tx.inCutout_eq_false_iff.mpr (.inl (by rw [hstate]; decide))
  have hready : (s.ticked.setTx { s.ticked.tx with halfTick := true }).tx.txState = .ready := hstate
  rw [tick_divides hin, divided_slot (s := s.ticked) hhalf hlong, slot_eq, State.slotBuf, State.slotOut, hready]
  exact ⟨rfl, rfl, Bool.or_false _⟩

/-- Any other tick leaves the slot alone and `flow_continue` cleared. -/
theorem tick_not_atReadySlot {s : State} (h : ¬ s.atReadySlot) :
    (tick s).buf = s.buf ∧ (tick s).out.flowContinue = false := by
  cases hin : s.tx.inCutout with
  | true =>
    rw [tick_inCutout hin, cutoutStep_buf, cutoutStep_out]
    exact ⟨rfl, rfl⟩
  | false =>
    rw [tick_divides hin]
    cases hhalf : s.tx.halfTick with
    | true => rw [divided_idle (s := s.ticked) hhalf]; exact ⟨rfl, rfl⟩
    | false =>
      cases hlong : s.tx.longPulse with
      | true => rw [divided_extra (s := s.ticked) hhalf hlong]; exact ⟨rfl, rfl⟩
      | false =>
        rw [divided_slot (s := s.ticked) hhalf hlong, slot_eq]
        cases hstate : s.tx.txState with
        | ready => exact absurd ⟨hstate, hhalf, hlong⟩ h
        | preamble | data | cutout =>
          have hslot : (s.ticked.setTx { s.ticked.tx with halfTick := true }).tx.txState = _ := hstate
          rw [State.slotBuf, State.slotOut, hslot]
          exact ⟨rfl, rfl⟩

/-- Settles O20: after a tick the transmitter is `Tx.tick`, the time `Time.ticked`, the slot and `flow_continue` depend
on whether the slot finds READY. -/
theorem sequencerIgnoresBoosterAndReceiver : Obligations.SequencerIgnoresBoosterAndReceiver := by
  unfold Obligations.SequencerIgnoresBoosterAndReceiver
  intro s s' t t' htx hmode hinhibit hbuf htime hcfg hexec hexec'
  obtain rfl := Host.Outcome.next.inj hexec
  obtain rfl := Host.Outcome.next.inj hexec'
  have hfeed : s'.feed = s.feed := by rw [State.feed, State.feed, hcfg, hmode, hinhibit, hbuf]
  have hslot : s'.atReadySlot ↔ s.atReadySlot := by rw [State.atReadySlot, State.atReadySlot, htx]
  refine ⟨by rw [tick_tx, tick_tx, htx, hfeed], ?buf, ?time, ?flow⟩
  case time => rw [(tick_frame s').time, (tick_frame s).time, State.ticked, State.ticked, htime, hcfg]
  all_goals
    by_cases h : s.atReadySlot
    · obtain ⟨hb, -, hf⟩ := tick_atReadySlot h
      obtain ⟨hb', -, hf'⟩ := tick_atReadySlot (hslot.mpr h)
      simp only [hb, hb', hf, hf', hbuf, State.busy]
    · obtain ⟨hb, hf⟩ := tick_not_atReadySlot h
      obtain ⟨hb', hf'⟩ := tick_not_atReadySlot (mt hslot.mp h)
      simp only [hb, hb', hf, hf', hbuf]

/-! ## Runs of ticks -/

theorem step_onlyTicks {s : State} (h : s.onlyTicks) : step s = .next (tick s) := by
  obtain ⟨hturns, hport⟩ := h
  rw [step, nextStep, hport]
  show agentTurn s = _
  rw [agentTurn, hturns]
  exact exec_tick s

theorem onlyTicks_tick {s : State} (h : s.onlyTicks) : (tick s).onlyTicks := by
  obtain ⟨hturns, hport⟩ := h
  exact ⟨(tick_frame s).turns.trans hturns, (tick_frame s).opPort.trans hport⟩

theorem runSteps_onlyTicks {s : State} (h : s.onlyTicks) (n : Nat) : s.runSteps n = some (tick^[n] s) := by
  induction n generalizing s with
  | zero => rfl
  | succ n ih =>
    rw [State.runSteps, step_onlyTicks h]
    exact ih (onlyTicks_tick h)

/-! ## Time (R112) -/

/-- One tick adds one, modulo the range of `ms` and its prescaler. -/
theorem Time.ticked_counts {ticks : Nat} {t : Time} (h : t.msDiv.toNat < ticks) (hticks : ticks ≤ 65536) :
    (t.ticked ticks).msDiv.toNat < ticks ∧
      ((t.ticked ticks).ms.toNat * ticks + (t.ticked ticks).msDiv.toNat) % (2 ^ 32 * ticks) =
        (t.ms.toNat * ticks + t.msDiv.toNat + 1) % (2 ^ 32 * ticks) := by
  by_cases hlast : t.msDiv.toNat = ticks - 1
  · have hms : (t.ms + 1).toNat = (t.ms.toNat + 1) % 2 ^ 32 := BitVec.toNat_add _ _
    have hsum : t.ms.toNat * ticks + t.msDiv.toNat + 1 = (t.ms.toNat + 1) * ticks := by
      rw [hlast, Nat.add_mul, one_mul]
      omega
    rw [Time.ticked, if_pos hlast]
    refine ⟨show 0 < ticks by omega, ?_⟩
    show ((t.ms + 1).toNat * ticks + 0) % _ = _
    rw [hms, hsum, Nat.add_zero, Nat.mul_mod_mul_right, Nat.mul_mod_mul_right, Nat.mod_mod]
  · have hdiv : (t.msDiv + 1).toNat = t.msDiv.toNat + 1 :=
      BitVec.toNat_add_of_lt (show t.msDiv.toNat + 1 < 2 ^ 16 by omega)
    rw [Time.ticked, if_neg hlast]
    refine ⟨by rw [hdiv]; omega, by rw [hdiv, Nat.add_assoc]⟩

/-- Settles O13, by induction on the number of ticks. -/
theorem millisecondsCountTicks : Obligations.MillisecondsCountTicks := by
  unfold Obligations.MillisecondsCountTicks
  intro n s hinv honly
  refine ⟨_, runSteps_onlyTicks honly n, ?_⟩
  have hlegal : s.cfg.ticksPerMs ≤ 65536 := by
    have h := hinv.parameters
    simp only [Config.legal, Bool.and_eq_true, decide_eq_true_iff] at h
    exact h.1.1.1.2
  induction n with
  | zero => exact ⟨hinv.prescaler, rfl, rfl⟩
  | succ n ih =>
    obtain ⟨hdiv, hcfg, hcount⟩ := ih
    rw [Function.iterate_succ_apply']
    have hframe := tick_frame (tick^[n] s)
    have hcfg' : (tick (tick^[n] s)).cfg = s.cfg := hframe.cfg.trans hcfg
    have htime : (tick (tick^[n] s)).time = (tick^[n] s).time.ticked s.cfg.ticksPerMs := by
      rw [hframe.time, State.ticked, hcfg]
    obtain ⟨hdiv', hcount'⟩ := Time.ticked_counts (hcfg ▸ hdiv) hlegal
    rw [htime, hcfg']
    refine ⟨hdiv', rfl, hcount'.trans ?_⟩
    rw [← Nat.add_assoc _ n 1]
    exact Nat.ModEq.add_right 1 hcount

/-! ## A powered cutout, tick by tick (R152) -/

/-- The state before the tick of step `k` of a powered cutout. -/
structure PoweredCutout (k : Nat) (s : State) : Prop where
  onlyTicks : s.onlyTicks
  txState : s.tx.txState = .cutout
  step : s.tx.cutoutStep.toNat = k
  unheld : k = 0 → s.tx.longPulse = false
  powered : s.ctl.boosterOn = true
  trackEn : s.out.trackEn = true
  trackPol : 2 ≤ k → s.out.trackPol = true
  cutoutAct : s.out.cutoutAct = decide (3 ≤ k)
  rxEn : s.out.rxEn = decide (5 ≤ k ∧ k ≤ 17)

section
variable {k : Nat} {s : State} (h : PoweredCutout k s)
include h

theorem PoweredCutout.inCutout : s.tx.inCutout = true := by
  refine Tx.inCutout_eq_true_iff.mpr ⟨h.txState, fun ⟨hstep, hlong⟩ => ?_⟩
  have hk : k = 0 := by rw [← h.step, hstep]; rfl
  exact Bool.false_ne_true ((h.unheld hk).symm.trans hlong)

theorem PoweredCutout.tick_out : (tick s).out = (s.ticked.out).cutoutTick true k := by
  rw [tick_inCutout h.inCutout, cutoutStep_out]
  exact congrArg₂ (fun on k => Out.cutoutTick on k s.ticked.out) h.powered h.step

/-- The outputs after the tick of step `k`. -/
theorem PoweredCutout.outputs :
    (tick s).out.trackEn = true ∧ (1 ≤ k → (tick s).out.trackPol = true) ∧
      (tick s).out.cutoutAct = decide (2 ≤ k ∧ k ≠ 18) ∧ (tick s).out.rxEn = decide (4 ≤ k ∧ k ≤ 16) := by
  have hpol := h.trackPol
  have hact : s.ticked.out.cutoutAct = decide (3 ≤ k) := h.cutoutAct
  have hrx : s.ticked.out.rxEn = decide (5 ≤ k ∧ k ≤ 17) := h.rxEn
  rw [h.tick_out]
  refine ⟨h.trackEn, fun hk => ?pol, ?act, ?rx⟩
  case pol =>
    obtain rfl | hk : k = 1 ∨ 2 ≤ k := by omega
    · rfl
    · exact (Bool.or_eq_true _ _).mpr (.inr (hpol hk))
  case act =>
    rw [Bool.eq_iff_iff]
    simp only [Out.cutoutTick, hact, Bool.or_eq_true, Bool.and_eq_true, Bool.not_eq_true',
      decide_eq_true_iff, Bool.true_and, decide_eq_false_iff_not]
    omega
  case rx =>
    rw [Bool.eq_iff_iff]
    simp only [Out.cutoutTick, hrx, Bool.or_eq_true, Bool.and_eq_true, Bool.not_eq_true',
      decide_eq_true_iff, Bool.true_and, decide_eq_false_iff_not]
    omega

theorem PoweredCutout.next (hk : k < 18) : PoweredCutout (k + 1) (tick s) := by
  obtain ⟨htrack, hpol, hact, hrx⟩ := h.outputs
  have htx : (tick s).tx = { s.tx with cutoutStep := BitVec.ofNat 5 (k + 1) } := by
    rw [tick_tx, Tx.tick_inCutout h.inCutout, Tx.cutoutTick_of_toNat h.step hk.ne]
  refine ⟨onlyTicks_tick h.onlyTicks, by rw [htx]; exact h.txState, ?step, nofun, ?on, htrack, fun h2 => hpol (by omega),
    ?act, ?rx⟩
  case step =>
    rw [htx]
    exact toNat_ofNat_of_lt (show k + 1 < 2 ^ 5 by omega)
  case on =>
    rw [(tick_frame s).ctl]
    exact h.powered
  case act =>
    rw [hact, decide_eq_decide]
    omega
  case rx =>
    rw [hrx, decide_eq_decide]
    omega

/-- After the tick of step 18 the sequencer is back in READY, with an empty FIFO. -/
theorem PoweredCutout.last (hk : k = 18) :
    (tick s).tx.txState = .ready ∧ (tick s).tx.halfTick = false ∧ (tick s).tx.cutoutStep = 0 ∧ (tick s).rxFifo = [] := by
  have hstep : s.ticked.tx.cutoutStep.toNat = 18 := h.step.trans hk
  have hon : s.ticked.ctl.boosterOn = true := h.powered
  rw [tick_inCutout h.inCutout, cutoutStep, hstep]
  show (coEnd s.ticked).tx.txState = _ ∧ (coEnd s.ticked).tx.halfTick = _ ∧ (coEnd s.ticked).tx.cutoutStep = _ ∧
    (coEnd s.ticked).rxFifo = _
  rw [coEnd_eq, hon]
  exact ⟨rfl, rfl, rfl, rfl⟩

end

/-- Settles O28: `k` ticks lead to step `k` (`PoweredCutout.next`), and the tick of step `k` leaves `outputs`. -/
theorem cutoutTimelineOfTheOutputs : Obligations.CutoutTimelineOfTheOutputs := by
  unfold Obligations.CutoutTimelineOfTheOutputs
  intro s k honly hstate hstep hlong hon htrack hact hrx hk
  have hrun : ∀ n ≤ 18, PoweredCutout n (tick^[n] s) := by
    intro n
    induction n with
    | zero => exact fun _ => ⟨honly, hstate, congrArg BitVec.toNat hstep, fun _ => hlong, hon, htrack, nofun, hact, hrx⟩
    | succ n ih =>
      intro hn
      rw [Function.iterate_succ_apply']
      exact (ih (Nat.le_of_succ_le hn)).next hn
  have hat := hrun k hk
  obtain ⟨htrack', hpol', hact', hrx'⟩ := hat.outputs
  refine ⟨_, runSteps_onlyTicks honly (k + 1), ?_⟩
  rw [Function.iterate_succ_apply']
  refine ⟨hpol', ?driven, hrx', ?state, fun h18 => ?last⟩
  case driven =>
    rw [State.driven, htrack', hact', Bool.true_and, ← decide_not, decide_eq_decide]
    omega
  case state =>
    by_cases h18 : k = 18
    · rw [if_pos h18]
      exact (hat.last h18).1
    · rw [if_neg h18]
      exact (hat.next (by omega)).txState
  case last =>
    obtain ⟨-, hhalf, hstep', hfifo⟩ := hat.last h18
    exact ⟨hhalf, hstep', hfifo⟩

end Sys2Proof.Machine
end

section
/-! PROOFS. Every way a tick can move the transmitter (40_tick R111 to R120, R125), in one inductive: the table of
transfers, the immutability of the frame on the wire and the invariant are read off its cases. -/

namespace Sys2Proof.Machine

/-! ## The cases of a tick -/

/-- The tick starts a slot: not in the second tick of a half-bit, no long half-bit pending (R111). -/
structure Tx.Acts (t : Tx) : Prop where
  halfTick : t.halfTick = false
  longPulse : t.longPulse = false

/-- What a tick makes of the transmitter, case by case. -/
inductive Tx.Step (f : Feed) (t : Tx) : Tx → Prop
  | idle (hin : t.inCutout = false) (hhalf : t.halfTick = true) : Tx.Step f t { t with halfTick := false }
  | extra (hin : t.inCutout = false) (hhalf : t.halfTick = false) (hlong : t.longPulse = true) :
      Tx.Step f t { t with halfTick := true, longPulse := false }
  | ready (hacts : t.Acts) (hstate : t.txState = .ready) :
      Tx.Step f t
        { t.loadFrame f with
          preCnt := t.preambleLen, halfSel := true, txState := .preamble, halfTick := true
          longPulse := decide (t.preambleLen = 0) }
  | oneFirst (hacts : t.Acts) (hstate : t.txState = .preamble) (hcnt : t.preCnt ≠ 0) (hsel : t.halfSel = false) :
      Tx.Step f t { t with halfTick := true, longPulse := false, halfSel := true }
  | oneSecond (hacts : t.Acts) (hstate : t.txState = .preamble) (hcnt : t.preCnt ≠ 0) (hsel : t.halfSel = true) :
      Tx.Step f t { t with halfTick := true, longPulse := false, halfSel := false, preCnt := t.preCnt - 1 }
  | startFirst (hacts : t.Acts) (hstate : t.txState = .preamble) (hcnt : t.preCnt = 0) (hsel : t.halfSel = false) :
      Tx.Step f t { t with halfTick := true, longPulse := true, halfSel := true }
  | startSecond (hacts : t.Acts) (hstate : t.txState = .preamble) (hcnt : t.preCnt = 0) (hsel : t.halfSel = true) :
      Tx.Step f t
        { t with halfTick := true, longPulse := true, halfSel := false, txState := .data, byteIdx := 0, bitIdx := 0 }
  | bitFirst (hacts : t.Acts) (hstate : t.txState = .data) (hsel : t.halfSel = false) :
      Tx.Step f t { t with halfTick := true, longPulse := !t.dataBit, halfSel := true }
  | bitInside (hacts : t.Acts) (hstate : t.txState = .data) (hsel : t.halfSel = true) (hlast : t.lastBit f = false)
      (hbit : t.bitIdx.toNat ≤ 7) :
      Tx.Step f t { t with halfTick := true, longPulse := !t.dataBit, halfSel := false, bitIdx := t.bitIdx + 1 }
  | bitNextByte (hacts : t.Acts) (hstate : t.txState = .data) (hsel : t.halfSel = true) (hlast : t.lastBit f = false)
      (hbit : 8 ≤ t.bitIdx.toNat) :
      Tx.Step f t
        { t with
          halfTick := true, longPulse := !t.dataBit, halfSel := false, byteIdx := t.byteIdx + 1, bitIdx := 0 }
  | bitLastToCutout (hacts : t.Acts) (hstate : t.txState = .data) (hsel : t.halfSel = true)
      (hlast : t.lastBit f = true) (hto : f.toCutout = true) :
      Tx.Step f t
        { t with
          halfTick := true, longPulse := !t.dataBit, halfSel := false, txState := .cutout, cutoutStep := 0
          preambleLen := f.nextPreamble }
  | bitLastToReady (hacts : t.Acts) (hstate : t.txState = .data) (hsel : t.halfSel = true)
      (hlast : t.lastBit f = true) (hto : f.toCutout = false) :
      Tx.Step f t
        { t with
          halfTick := true, longPulse := !t.dataBit, halfSel := false, txState := .ready
          preambleLen := f.nextPreamble }
  | cutoutNext (hin : t.inCutout = true) (hstep : t.cutoutStep ≠ 18) :
      Tx.Step f t { t with cutoutStep := t.cutoutStep + 1 }
  | cutoutEnd (hin : t.inCutout = true) (hstep : t.cutoutStep = 18) :
      Tx.Step f t { t with txState := .ready, halfTick := false, cutoutStep := 0 }

section Cases
variable {f : Feed} {t : Tx}

/-! PRE_SLOT, by the half and the count. -/

theorem Tx.preSlot_oneFirst (hcnt : t.preCnt ≠ 0) (hsel : t.halfSel = false) :
    t.preSlot = { t with longPulse := false, halfSel := true } := by
  rw [Tx.preSlot, if_neg hcnt, hsel, if_neg Bool.false_ne_true, Tx.startHalf, hsel]
  rfl

theorem Tx.preSlot_oneSecond (hcnt : t.preCnt ≠ 0) (hsel : t.halfSel = true) :
    t.preSlot = { t with longPulse := false, halfSel := false, preCnt := t.preCnt - 1 } := by
  rw [Tx.preSlot, if_neg hcnt, hsel, if_pos rfl, Tx.startHalf, hsel]
  rfl

theorem Tx.preSlot_startFirst (hcnt : t.preCnt = 0) (hsel : t.halfSel = false) :
    t.preSlot = { t with longPulse := true, halfSel := true } := by
  rw [Tx.preSlot, if_pos hcnt, hsel, if_neg Bool.false_ne_true, Tx.startHalf, hsel]
  rfl

theorem Tx.preSlot_startSecond (hcnt : t.preCnt = 0) (hsel : t.halfSel = true) :
    t.preSlot = { t with longPulse := true, halfSel := false, txState := .data, byteIdx := 0, bitIdx := 0 } := by
  rw [Tx.preSlot, if_pos hcnt, hsel, if_pos rfl, Tx.startHalf, hsel]
  rfl

/-- READY and the first half of what it starts: a one, as no preamble is empty (R114, R116). -/
theorem Tx.preSlot_ready :
    (t.ready f).preSlot =
      { t.loadFrame f with
        preCnt := t.preambleLen, halfSel := true, txState := .preamble, longPulse := decide (t.preambleLen = 0) } := by
  by_cases hpre : t.preambleLen = 0
  · rw [Tx.preSlot_startFirst (t := t.ready f) hpre rfl, decide_eq_true hpre]
    rfl
  · rw [Tx.preSlot_oneFirst (t := t.ready f) hpre rfl, decide_eq_false hpre]
    rfl

theorem Tx.loadFrame_halfTick (b : Bool) :
    ({ t with halfTick := b } : Tx).loadFrame f = { t.loadFrame f with halfTick := b } := by
  unfold Tx.loadFrame
  split <;> rfl

/-- The four states, as a disjunction that leaves the goal alone. -/
theorem TxState.eq_cases (x : TxState) : x = .ready ∨ x = .preamble ∨ x = .data ∨ x = .cutout := by
  cases x <;> simp

theorem Tx.step_of_acts (hin : t.inCutout = false) (hacts : t.Acts) :
    Tx.Step f t (({ t with halfTick := true } : Tx).slot f) := by
  obtain hstate | hstate | hstate | hstate := t.txState.eq_cases
  · rw [Tx.slot_ready (t := { t with halfTick := true }) hstate, Tx.preSlot_ready, Tx.loadFrame_halfTick]
    exact .ready hacts hstate
  · rw [Tx.slot_preamble (t := { t with halfTick := true }) hstate]
    by_cases hcnt : t.preCnt = 0 <;> obtain hsel | hsel := t.halfSel.eq_false_or_eq_true
    · rw [Tx.preSlot_startSecond (t := { t with halfTick := true }) hcnt hsel]
      exact .startSecond hacts hstate hcnt hsel
    · rw [Tx.preSlot_startFirst (t := { t with halfTick := true }) hcnt hsel]
      exact .startFirst hacts hstate hcnt hsel
    · rw [Tx.preSlot_oneSecond (t := { t with halfTick := true }) hcnt hsel]
      exact .oneSecond hacts hstate hcnt hsel
    · rw [Tx.preSlot_oneFirst (t := { t with halfTick := true }) hcnt hsel]
      exact .oneFirst hacts hstate hcnt hsel
  · rw [Tx.slot_data (t := { t with halfTick := true }) hstate]
    obtain hsel | hsel := t.halfSel.eq_false_or_eq_true
    · cases hlast : t.lastBit f with
      | false =>
        obtain hbit | hbit := Nat.lt_or_ge t.bitIdx.toNat 8
        · rw [Tx.dataSlot_inside (t := { t with halfTick := true }) hsel hlast (Nat.le_of_lt_succ hbit)]
          exact .bitInside hacts hstate hsel hlast (Nat.le_of_lt_succ hbit)
        · rw [Tx.dataSlot_nextByte (t := { t with halfTick := true }) hsel hlast hbit]
          exact .bitNextByte hacts hstate hsel hlast hbit
      | true =>
        rw [Tx.dataSlot_last (t := { t with halfTick := true }) hsel hlast, Tx.endOfFrame]
        cases hto : f.toCutout with
        | true => exact .bitLastToCutout hacts hstate hsel hlast hto
        | false => exact .bitLastToReady hacts hstate hsel hlast hto
    · rw [Tx.dataSlot_first (t := { t with halfTick := true }) hsel]
      exact .bitFirst hacts hstate hsel
  · have hheld := (Tx.inCutout_eq_false_iff.mp hin).resolve_left fun h => h hstate
    exact absurd (hacts.longPulse.symm.trans hheld.2) Bool.false_ne_true

theorem Tx.tick_step (f : Feed) (t : Tx) : Tx.Step f t (t.tick f) := by
  cases hin : t.inCutout with
  | true =>
    rw [Tx.tick_inCutout hin, Tx.cutoutTick]
    by_cases hstep : t.cutoutStep = 18
    · rw [if_pos hstep]
      exact .cutoutEnd hin hstep
    · rw [if_neg hstep]
      exact .cutoutNext hin hstep
  | false =>
    rw [Tx.tick_divides hin]
    cases hhalf : t.halfTick with
    | true =>
      rw [Tx.divided_idle hhalf]
      exact .idle hin hhalf
    | false =>
      cases hlong : t.longPulse with
      | true =>
        rw [Tx.divided_extra hhalf hlong]
        exact .extra hin hhalf hlong
      | false =>
        rw [Tx.divided_slot hhalf hlong]
        exact Tx.step_of_acts hin ⟨hhalf, hlong⟩

end Cases

end Sys2Proof.Machine
end

section
/-! PROOFS. The agents (00_scope R7, 20_memory R72, R73): every operation completes, what one step of an agent is, and
what it does to the transmitter (R77, R125). -/

namespace Sys2Proof.Machine

/-! ## Reset (R41, R310, R313) -/

/-- Settles O1: `State.resetWith` is that state by definition, and a table that lists nothing reads as its default. -/
theorem resetLeavesTheValuesOfTheSpec : Obligations.ResetLeavesTheValuesOfTheSpec := by
  unfold Obligations.ResetLeavesTheValuesOfTheSpec
  exact ⟨rfl, fun cfg => ⟨rfl, rfl, rfl, rfl, rfl, rfl, rfl, fun q => Vector.getElem_replicate _, fun _ => rfl,
    fun _ => rfl, rfl⟩⟩

/-- Settles O2: every part of the invariant is about a zero register, an empty table or the parameters. -/
theorem resetSatisfiesTheInvariant : Obligations.ResetSatisfiesTheInvariant := by
  unfold Obligations.ResetSatisfiesTheInvariant
  have reset (cfg : Config) (hlegal : cfg.legal = true) : Inv (State.resetWith cfg) := by
    have hticks : 0 < cfg.ticksPerMs := by
      simp only [Config.legal, Bool.and_eq_true, decide_eq_true_iff] at hlegal
      omega
    exact {
      position := ⟨Nat.zero_le _, Nat.zero_le _, Nat.zero_le _, Nat.zero_le _, .inl rfl⟩
      frame := ⟨fun h => absurd rfl h, nofun⟩
      longPulse := ⟨nofun, nofun⟩
      slotLen := .inl rfl
      cutoutPowered := nofun
      receiverPowered := nofun
      statForm := reset_stat_wf cfg
      statEntries := nofun
      locoAddrForm := reset_locoAddr_wf cfg
      locoAddrEntries := nofun
      prescaler := hticks
      fifo := Nat.zero_le _
      parameters := hlegal
      portIdle := rfl }
  exact ⟨reset, reset Config.suggested rfl⟩

theorem step_of_turns {s : State} (hport : s.opPort = none) : step s = agentTurn s := by
  rw [step, nextStep, hport]

/-- Settles O3: an rst turn is `rstTurn`, which sets every field. -/
theorem resetCycleSetsEverythingAndDoesNothingElse : Obligations.ResetCycleSetsEverythingAndDoesNothingElse := by
  unfold Obligations.ResetCycleSetsEverythingAndDoesNothingElse
  intro s rest hport hturns
  rw [step_of_turns hport, agentTurn, hturns]
  rfl

/-! ## Every operation completes (60_exceptions R287) -/

theorem Ch2Effect.sameSetting {idx : BitVec 8} {s t : State} (h : Ch2Effect idx s t) : SameSetting s t := by
  obtain ⟨r, x, log, rfl | rfl | rfl⟩ := h
  · exact ⟨rfl, rfl, rfl, rfl⟩
  · rw [statResponse, updStat_eq]
    exact ⟨rfl, rfl, rfl, rfl⟩
  · rw [statTouch, updStat_eq]
    exact ⟨rfl, rfl, rfl, rfl⟩

theorem ch1Decode_sameSetting (raw : List Byte) (s : State) : SameSetting s (ch1Decode raw s) := by
  obtain ⟨r, log, h⟩ := ch1Decode_writes raw s
  rw [h]
  exact ⟨rfl, rfl, rfl, rfl⟩

theorem ch2Decode_sameSetting (raw : List Byte) (idx : BitVec 8) (s : State) : SameSetting s (ch2Decode raw idx s) := by
  obtain ⟨r, x, log, st, -, -, h⟩ := ch2Decode_writes raw idx s
  rw [h]
  exact ⟨rfl, rfl, rfl, rfl⟩

theorem toStep_whenPowered_sameSetting (k : BitVec 5) {f : State → State} {s : State} (h : SameSetting s (f s)) :
    SameSetting s (toStep k (whenPowered f s)) := by
  obtain ⟨-, heq⟩ | ⟨-, heq⟩ := whenPowered_cases f s <;> rw [heq]
  · exact h.trans ⟨rfl, rfl, rfl, rfl⟩
  · exact ⟨rfl, rfl, rfl, rfl⟩

theorem ready_sameSetting (s : State) : SameSetting s (Machine.ready s) := by
  rw [ready_eq]
  exact ⟨rfl, rfl, rfl, rfl⟩

theorem preSlot_sameSetting (s : State) : SameSetting s (Machine.preSlot s) := by
  rw [preSlot_eq]
  exact ⟨rfl, rfl, rfl, rfl⟩

theorem dataSlot_sameSetting (s : State) : SameSetting s (Machine.dataSlot s) := by
  rw [dataSlot_eq]
  exact ⟨rfl, rfl, rfl, rfl⟩

theorem rxAppend_sameSetting (b : Byte) (s : State) : SameSetting s (rxAppend b s) := by
  rw [rxAppend_eq]
  exact ⟨rfl, rfl, rfl, rfl⟩

theorem coEnd_sameSetting (s : State) : SameSetting s (coEnd s) := by
  rw [coEnd_eq]
  exact ⟨rfl, rfl, rfl, rfl⟩

theorem tick_sameSetting (s : State) : SameSetting s (tick s) := { (tick_frame s).toSameSetting with }

/-- Every operation answers a next state with the parameters, the port, the turns and the queue unchanged. -/
theorem exec_completes (i : Instr) (s : State) : ∃ t, exec i s = .next t ∧ SameSetting s t := by
  have foreground {i : Instr} (h : isForeground i = true) : ∃ t, exec i s = .next t ∧ SameSetting s t := by
    obtain ⟨t, ht, heffect⟩ := exec_foreground h s
    exact ⟨t, ht, heffect.frame.toSameSetting⟩
  cases i with
  | submit | setMode | modeNoRailcom | modeRailcom | modeProgramming | modeReserved3 => exact foreground rfl
  | tick => exact ⟨_, rfl, tick_sameSetting s⟩
  | ready => exact ⟨_, rfl, ready_sameSetting s⟩
  | preSlot => exact ⟨_, rfl, preSlot_sameSetting s⟩
  | dataSlot => exact ⟨_, rfl, dataSlot_sameSetting s⟩
  | ch1dec raw => exact ⟨_, rfl, ch1Decode_sameSetting raw s⟩
  | ch2dec raw idx => exact ⟨_, rfl, ch2Decode_sameSetting raw idx s⟩
  | rxbyte b => exact ⟨_, rfl, rxAppend_sameSetting b s⟩
  | coForcePos => exact ⟨_, rfl, toStep_whenPowered_sameSetting 2 ⟨rfl, rfl, rfl, rfl⟩⟩
  | coAssert => exact ⟨_, rfl, toStep_whenPowered_sameSetting 3 ⟨rfl, rfl, rfl, rfl⟩⟩
  | coRxEnable => exact ⟨_, rfl, toStep_whenPowered_sameSetting 5 ⟨rfl, rfl, rfl, rfl⟩⟩
  | coRxFlush => exact ⟨_, rfl, toStep_whenPowered_sameSetting 6 ⟨rfl, rfl, rfl, rfl⟩⟩
  | coReadCh1 => exact ⟨_, rfl, (coReadCh1_frame s).toSameSetting⟩
  | coReadCh2 => exact ⟨_, rfl, (coReadCh2_frame s).toSameSetting⟩
  | coEnd => exact ⟨_, rfl, coEnd_sameSetting s⟩
  | txsReady => exact ⟨_, rfl, (ready_sameSetting s).trans (preSlot_sameSetting _)⟩
  | txsPreamble => exact ⟨_, rfl, preSlot_sameSetting s⟩
  | txsData => exact ⟨_, rfl, dataSlot_sameSetting s⟩
  | txsCutout => exact ⟨_, rfl, (cutoutStep_frame s).toSameSetting⟩
  | rc1AdrHigh val =>
    refine ⟨_, exec_rc1AdrHigh val s, ?_⟩
    rw [rc1AdrHigh_eq]
    exact ⟨rfl, rfl, rfl, rfl⟩
  | rc1AdrLow val =>
    refine ⟨_, exec_rc1AdrLow val s, ?_⟩
    rw [rc1AdrLow_eq]
    exact ⟨rfl, rfl, rfl, rfl⟩
  | rc2Pom | rc2Dyn | rc2DynNosub => exact ⟨_, rfl, (Ch2Effect.record _ s _).sameSetting⟩
  | rc2AdrHigh val => exact ⟨_, rfl, (rc2AdrHigh_effect val _ s).sameSetting⟩
  | rc2AdrLow val => exact ⟨_, rfl, (rc2AdrLow_effect val _ s).sameSetting⟩
  | rc2Xpom0 | rc2Xpom1 | rc2Xpom2 | rc2Xpom3 => exact ⟨_, rfl, (rc2Xpom_effect _ _ _ _ _ _ s).sameSetting⟩
  | rc2Unknown3 | rc2Unknown4 | rc2Unknown5 | rc2Unknown6 | rc2Unknown12 | rc2Unknown13 | rc2Unknown14 | rc2Unknown15 =>
    exact ⟨_, rfl, (rc2Unknown_effect _ _ s).sameSetting⟩
  | _ => exact ⟨_, rfl, rfl, rfl, rfl, rfl⟩

/-! ## The turns -/

/-- The foreground's turn takes a request from the queue, or leaves it, and has one of the effects of its port. -/
theorem fgTurn_effect (s : State) :
    ∃ queue t, fgTurn s = .next t ∧ ForegroundEffect (s.setFgQueue queue) t := by
  unfold fgTurn
  split
  case h_1 => exact ⟨s.fgQueue, s, rfl, .held⟩
  case h_2 inv rest _ =>
    split
    case h_1 e _ => exact ⟨rest, _, rfl, .answered _⟩
    case h_2 i _ =>
      unfold fgRequest
      cases hport : isForeground i with
      | false => exact ⟨rest, _, rfl, .answered _⟩
      | true =>
        cases hheld : held i s with
        | true => exact ⟨s.fgQueue, s, rfl, .held⟩
        | false =>
          obtain ⟨t, ht, heffect⟩ := exec_foreground hport (s.setFgQueue rest)
          exact ⟨rest, t, ht, heffect⟩

/-- What a step with nothing at the operation port is: the turn of the agent that comes next. -/
inductive AgentStep (s : State) : State → Prop
  | tick (hnext : s.tickNext) : AgentStep s (tick (s.setTurns s.turns.tail))
  | foreground {queue : List Invocation} {t : State} (hfg : s.turns.head? = some .fg)
      (heffect : ForegroundEffect ((s.setTurns s.turns.tail).setFgQueue queue) t) : AgentStep s t
  | received {b : Byte} (hrx : s.turns.head? = some (.rx b)) : AgentStep s (rxAppend b (s.setTurns s.turns.tail))
  | reset (hrst : s.turns.head? = some .rst) : AgentStep s (rstTurn (s.setTurns s.turns.tail))

theorem agentTurn_step (s : State) : ∃ t, agentTurn s = .next t ∧ AgentStep s t := by
  have hsame (h : s.turns = []) : s.setTurns s.turns.tail = s := by
    cases s
    obtain rfl := h
    rfl
  have split_turns {turn : Turn} {rest : List Turn} (h : s.turns = turn :: rest) :
      s.turns.head? = some turn ∧ rest = s.turns.tail := by
    rw [h]
    exact ⟨rfl, rfl⟩
  unfold agentTurn
  split
  case h_1 h => exact ⟨_, (exec_tick s).trans (by rw [hsame h]), .tick (.inl h)⟩
  case h_2 rest h =>
    obtain ⟨hhead, rfl⟩ := split_turns h
    exact ⟨_, exec_tick _, .tick (.inr hhead)⟩
  case h_3 rest h =>
    obtain ⟨hhead, rfl⟩ := split_turns h
    obtain ⟨queue, t, ht, heffect⟩ := fgTurn_effect (s.setTurns s.turns.tail)
    exact ⟨t, ht, .foreground hhead heffect⟩
  case h_4 b rest h =>
    obtain ⟨hhead, rfl⟩ := split_turns h
    exact ⟨_, exec_rxbyte b _, .received hhead⟩
  case h_5 rest h =>
    obtain ⟨hhead, rfl⟩ := split_turns h
    exact ⟨_, rfl, .reset hhead⟩

theorem agentStep_of_step {s t : State} (hport : s.opPort = none) (h : step s = .next t) : AgentStep s t := by
  obtain ⟨u, hu, hstep⟩ := agentTurn_step s
  rw [step_of_turns hport, hu] at h
  exact Host.Outcome.next.inj h ▸ hstep

theorem AgentStep.cfg {s t : State} (h : AgentStep s t) : t.cfg = s.cfg := by
  cases h with
  | tick => exact (tick_sameSetting _).cfg
  | foreground _ heffect => exact heffect.frame.cfg
  | received => exact (rxAppend_sameSetting _ _).cfg
  | reset => rfl

/-- Settles O10, by `exec_completes` and the cases of a turn. -/
theorem everyOperationCompletes : Obligations.EveryOperationCompletes := by
  unfold Obligations.EveryOperationCompletes
  refine ⟨fun i s => ?exec, fun s => ?step⟩
  case exec =>
    obtain ⟨t, ht, hcfg, hport, hturns, hqueue⟩ := exec_completes i s
    exact ⟨t, ht, hcfg, hport, hturns, hqueue⟩
  case step =>
    rw [step, nextStep]
    split
    case h_1 inv _ =>
      rw [opTurn]
      split
      case h_1 => exact ⟨_, rfl, rfl⟩
      case h_2 i _ =>
        cases held i s with
        | true => exact ⟨_, exec_tick s, (tick_sameSetting s).cfg⟩
        | false =>
          obtain ⟨t, ht, hsame⟩ := exec_completes i (s.setOpPort none)
          exact ⟨t, ht, hsame.cfg⟩
    case h_2 =>
      obtain ⟨t, ht, hstep⟩ := agentTurn_step s
      exact ⟨t, ht, hstep.cfg⟩

end Sys2Proof.Machine
end

section
/-! PROOFS. What a step runs (R213, R282, R294), and what the agents do to the transmitter (R77, R125). -/

namespace Sys2Proof.Machine

/-! ## The request at the port and in the queue -/

section Request
variable {s : State} {inv : Invocation} {i : Instr} {e : DecodeError}

theorem step_of_port (hport : s.opPort = some inv) : step s = opTurn inv s := by
  rw [step, nextStep, hport]

theorem opTurn_runs (hdecode : decode inv = .ok i) (hheld : held i s = false) :
    opTurn inv s = exec i (s.setOpPort none) := by
  rw [opTurn, hdecode]
  exact if_neg (hheld ▸ Bool.false_ne_true)

theorem opTurn_held (hdecode : decode inv = .ok i) (hheld : held i s = true) : opTurn inv s = exec .tick s := by
  rw [opTurn, hdecode]
  exact if_pos hheld

theorem opTurn_rejected (hdecode : decode inv = .error e) :
    opTurn inv s = .next (respond (.rejected e) (s.setOpPort none)) := by
  rw [opTurn, hdecode]

theorem fgTurn_request {rest : List Invocation} (hqueue : s.fgQueue = inv :: rest) (hdecode : decode inv = .ok i) :
    fgTurn s = fgRequest i rest s := by
  rw [fgTurn, hqueue]
  show (match decode inv with | .error e => _ | .ok i => _) = _
  rw [hdecode]

theorem fgTurn_rejected {rest : List Invocation} (hqueue : s.fgQueue = inv :: rest) (hdecode : decode inv = .error e) :
    fgTurn s = .next (respond (.rejected e) (s.setFgQueue rest)) := by
  rw [fgTurn, hqueue]
  show (match decode inv with | .error e => _ | .ok i => _) = _
  rw [hdecode]

theorem fgTurn_nil (hqueue : s.fgQueue = []) : fgTurn s = .next s := by
  rw [fgTurn, hqueue]

theorem fgRequest_runs (rest : List Invocation) (hport : isForeground i = true) (hheld : held i s = false) :
    fgRequest i rest s = exec i (s.setFgQueue rest) := by
  rw [fgRequest, hport, hheld]
  rfl

theorem fgRequest_held (rest : List Invocation) (hport : isForeground i = true) (hheld : held i s = true) :
    fgRequest i rest s = .next s := by
  rw [fgRequest, hport, hheld]
  rfl

theorem fgRequest_notOffered (rest : List Invocation) (hport : isForeground i = false) :
    fgRequest i rest s = .next (respond .notOffered (s.setFgQueue rest)) := by
  rw [fgRequest, hport]
  rfl

theorem step_fg {rest : List Turn} (hport : s.opPort = none) (hturns : s.turns = .fg :: rest) :
    step s = fgTurn (s.setTurns rest) := by
  rw [step_of_turns hport, agentTurn, hturns]

/-- No word is a SUBMIT, so a table word is never held. -/
theorem held_of_decode_word {fmt : Format} {n : Nat} (h : decode (.word fmt n) = .ok i) (s : State) :
    held i s = false := by
  cases i with
  | submit idx a payload => cases (encodeOfDecodeIsTheInvocation _ _ h).2
  | _ => rfl

theorem exists_word_of_tableInvocation (nbits w : Nat) : ∃ fmt n, tableInvocation nbits w = .word fmt n := by
  unfold tableInvocation
  split_ifs <;> exact ⟨_, _, rfl⟩

theorem decode_of_decodeTableWord {nbits w : Nat} (h : decodeTableWord nbits w = some i) :
    decode (tableInvocation nbits w) = .ok i := by
  unfold decodeTableWord at h
  split at h
  case h_1 j hj => rw [hj, Option.some.inj h]
  case h_2 => cases h

theorem decode_encode_submit (idx : BitVec 8) (a : BitVec 16) (payload : List Byte) :
    decode (encode (.submit idx a payload)) = .ok (.submit idx a payload) := decode_submitInvocation idx a payload

theorem held_submit {idx : BitVec 8} {a : BitVec 16} {payload : List Byte} (hlegal : submitRefused a payload = false)
    (hfull : s.buf.bufLen ≠ 0) : held (.submit idx a payload) s = true := by
  rw [held, hlegal, (busy_eq_true_iff s).mpr hfull]
  rfl

theorem held_eq_false_of_empty (i : Instr) (hempty : s.buf.bufLen = 0) : held i s = false := by
  cases i with
  | submit idx a payload => rw [held, (busy_eq_false_iff s).mpr hempty, Bool.and_false]
  | _ => rfl

end Request

/-- Settles O8: the port, then the turns, case by case. -/
theorem stepRunsTheDecodedOperation : Obligations.StepRunsTheDecodedOperation := by
  unfold Obligations.StepRunsTheDecodedOperation
  refine ⟨fun s inv i hport hdecode hheld => ?runs, fun s nbits w i hword => ?word, fun s inv e hport hdecode => ?rejected,
    fun s hport => ⟨fun hturns => ?none, fun rest hturns => ?tick, fun b rest hturns => ?rx,
      fun rest inv queue i hturns hqueue hdecode hfg hheld => ?fg,
      fun rest inv queue i hturns hqueue hdecode hfg => ?notOffered,
      fun rest inv queue e hturns hqueue hdecode => ?fgRejected, fun rest hturns hqueue => ?idle⟩⟩
  case runs => rw [step_of_port hport, opTurn_runs hdecode hheld, State.setOpPort]
  case word =>
    have hdecode := decode_of_decodeTableWord hword
    obtain ⟨fmt, n, hinv⟩ := exists_word_of_tableInvocation nbits w
    have hport : (s.withFetchWord nbits w).opPort = some (tableInvocation nbits w) := rfl
    rw [step_of_port hport, opTurn_runs hdecode (held_of_decode_word (hinv ▸ hdecode) _)]
    rfl
  case rejected => rw [step_of_port hport, opTurn_rejected hdecode, respond, State.setResponse, State.setOpPort]
  case none => rw [step_of_turns hport, agentTurn, hturns]
  case tick => rw [step_of_turns hport, agentTurn, hturns]; rfl
  case rx => rw [step_of_turns hport, agentTurn, hturns]; rfl
  case fg =>
    have hheld' : held i (s.setTurns rest) = false := by
      cases i with
      | submit => exact hheld
      | _ => rfl
    rw [step_fg hport hturns, fgTurn_request (s := s.setTurns rest) hqueue hdecode, fgRequest_runs queue hfg hheld']
    rfl
  case notOffered =>
    rw [step_fg hport hturns, fgTurn_request (s := s.setTurns rest) hqueue hdecode, fgRequest_notOffered queue hfg]
    rfl
  case fgRejected =>
    rw [step_fg hport hturns, fgTurn_rejected (s := s.setTurns rest) hqueue hdecode]
    rfl
  case idle =>
    rw [step_fg hport hturns, fgTurn_nil (s := s.setTurns rest) hqueue]
    rfl

/-- Settles O9: such a SUBMIT is `held`, in whose cases neither turn touches it. -/
theorem heldSubmitTakesNoStep : Obligations.HeldSubmitTakesNoStep := by
  unfold Obligations.HeldSubmitTakesNoStep
  intro s idx a payload hmin hmax hfull
  have hlegal : submitRefused a payload = false := submitRefused_eq_false_iff.mpr ⟨hmin, hmax⟩
  have hdecode := decode_encode_submit idx a payload
  refine ⟨?exec, fun rest queue hport hturns hqueue => ?fg, fun hport => ?port⟩
  case exec =>
    rw [exec_submit]
    obtain ⟨hrefused, -⟩ | ⟨-, -, hsame⟩ | ⟨-, hempty, -⟩ := submit_cases idx a payload s
    · exact absurd (hlegal.symm.trans hrefused) Bool.false_ne_true
    · rw [hsame]
    · exact absurd ((busy_eq_false_iff s).mp hempty) hfull
  case fg =>
    have hheld : held (.submit idx a payload) (s.setTurns rest) = true := held_submit hlegal hfull
    rw [step_fg hport hturns, fgTurn_request (s := s.setTurns rest) hqueue hdecode, fgRequest_held queue rfl hheld,
      State.setTurns]
  case port => rw [step_of_port hport, opTurn_held hdecode (held_submit hlegal hfull)]

/-! ## The frame on the wire (R77) -/

/-- A tick changes the frame on the wire only in a slot that finds READY. -/
theorem Tx.Step.sameFrame {f : Feed} {t t' : Tx} (h : Tx.Step f t t') (hready : ¬ (t.Acts ∧ t.txState = .ready)) :
    t'.txLen = t.txLen ∧ t'.txBytes = t.txBytes ∧ t'.txLocoIdx = t.txLocoIdx := by
  cases h with
  | ready hacts hstate => exact absurd ⟨hacts, hstate⟩ hready
  | _ => exact ⟨rfl, rfl, rfl⟩

theorem State.atReadySlot_iff {s : State} : s.atReadySlot ↔ s.tx.Acts ∧ s.tx.txState = .ready :=
  ⟨fun ⟨hstate, hhalf, hlong⟩ => ⟨⟨hhalf, hlong⟩, hstate⟩, fun ⟨hacts, hstate⟩ => ⟨hstate, hacts.halfTick, hacts.longPulse⟩⟩

/-- Settles O18: of the agents only TICK and a reset cycle write the transmitter. -/
theorem frameOnTheWireIsImmutable : Obligations.FrameOnTheWireIsImmutable := by
  unfold Obligations.FrameOnTheWireIsImmutable
  intro s t hport hstep hrst hready
  cases agentStep_of_step hport hstep with
  | tick hnext =>
    rw [tick_tx]
    exact (Tx.tick_step _ _).sameFrame fun hacts => hready ⟨hnext, State.atReadySlot_iff.mpr hacts⟩
  | foreground _ heffect => rw [heffect.frame.tx]; exact ⟨rfl, rfl, rfl⟩
  | received => rw [rxAppend_eq]; exact ⟨rfl, rfl, rfl⟩
  | reset h => exact absurd h hrst

/-! ## The table of transfers (R125) -/

theorem Feed.toCutout_state (s : State) :
    (if s.feed.toCutout then TxState.cutout else .ready) =
      if s.ctl.mode = .railcom ∧ s.ctl.cutoutInhibit = false then .cutout else .ready := by
  simp [Feed.toCutout, State.feed]

/-- Settles O19: the cases of `Tx.Step` that change `tx_state`. -/
theorem everyTransferOfControlIsInTheTable : Obligations.EveryTransferOfControlIsInTheTable := by
  unfold Obligations.EveryTransferOfControlIsInTheTable
  intro s t hport hstep hchanged
  cases agentStep_of_step hport hstep with
  | foreground _ heffect => exact absurd (congrArg Tx.txState heffect.frame.tx) hchanged
  | received => rw [rxAppend_eq] at hchanged; exact absurd rfl hchanged
  | reset h => exact .inl ⟨h, rfl⟩
  | tick hnext =>
    refine .inr ⟨hnext, ?_⟩
    have hto := Feed.toCutout_state s
    rw [tick_tx] at hchanged ⊢
    generalize htick : Tx.tick (s.setTurns s.turns.tail).feed (s.setTurns s.turns.tail).tx = x at hchanged ⊢
    have hcase : Tx.Step s.feed s.tx x := htick ▸ Tx.tick_step s.feed s.tx
    cases hcase with
    | ready hacts hstate => exact .inl ⟨State.atReadySlot_iff.mpr ⟨hacts, hstate⟩, rfl⟩
    | startSecond hacts hstate hcnt hsel =>
      exact .inr (.inl ⟨hacts.halfTick, hacts.longPulse, hsel, .inl ⟨hstate, hcnt, rfl⟩⟩)
    | bitLastToCutout hacts hstate hsel hlast hcut =>
      obtain ⟨hbyte, hbit⟩ := Tx.lastBit_eq_true_iff.mp hlast
      rw [hcut] at hto
      exact .inr (.inl ⟨hacts.halfTick, hacts.longPulse, hsel, .inr ⟨hstate, hbyte, hbit, hto⟩⟩)
    | bitLastToReady hacts hstate hsel hlast hcut =>
      obtain ⟨hbyte, hbit⟩ := Tx.lastBit_eq_true_iff.mp hlast
      rw [hcut] at hto
      exact .inr (.inl ⟨hacts.halfTick, hacts.longPulse, hsel, .inr ⟨hstate, hbyte, hbit, hto⟩⟩)
    | cutoutEnd hin hstep18 => exact .inr (.inr ⟨(Tx.inCutout_eq_true_iff.mp hin).1, hstep18, rfl⟩)
    | _ => exact absurd rfl hchanged

end Sys2Proof.Machine
end

section
/-! PROOFS. The invariant (10_state R42): the transmitter keeps its part by the cases of `Tx.Step`, the rest of a tick by
its frame, and every effect of the foreground port, of the receiver and of a reset keeps all of it. -/

namespace Sys2Proof.Machine

/-! ## The transmitter's part -/

/-- What the invariant says of the transmitter. -/
structure Tx.Kept (t : Tx) : Prop where
  position : t.InRange
  frame : t.HoldsFrame
  longPulse : t.LongPulseOfZero

/-- A slot is empty or holds a frame of 2 to 9 bytes. -/
def Slot.Legal (b : Slot) : Prop := b.bufLen = 0 ∨ (lenMin ≤ b.bufLen.toNat ∧ b.bufLen.toNat ≤ lenMax)

section Kept
variable {f : Feed} {t t' : Tx}

theorem toNat_preambleLen_le {p : BitVec 5} (h : p = preNorc ∨ p = preRc ∨ p = prePgm) : p.toNat ≤ 20 ∧ p ≠ 0 := by
  obtain rfl | rfl | rfl := h <;> decide

theorem Feed.nextPreamble_cases (f : Feed) :
    f.nextPreamble = preNorc ∨ f.nextPreamble = preRc ∨ f.nextPreamble = prePgm := by
  unfold Feed.nextPreamble
  split_ifs
  · exact .inr (.inl rfl)
  · exact .inr (.inr rfl)
  · exact .inl rfl

/-- The frame READY takes has a legal length; nothing else moves. -/
theorem Tx.loadFrame_txLen (hslot : f.slot.Legal) :
    lenMin ≤ (t.loadFrame f).txLen.toNat ∧ (t.loadFrame f).txLen.toNat ≤ lenMax := by
  unfold Tx.loadFrame
  split
  case isTrue => exact ⟨(by decide : lenMin ≤ 3), (by decide : 3 ≤ lenMax)⟩
  case isFalse hfull => exact hslot.resolve_left hfull

theorem Tx.InRange.loadFrame (h : t.InRange) (f : Feed) : (t.loadFrame f).InRange := by
  unfold Tx.loadFrame
  split <;> exact { h with }

theorem toNat_add_one {w n : Nat} {b : BitVec w} (h : b.toNat ≤ n) (hn : n + 1 < 2 ^ w) :
    (b + 1#w).toNat = b.toNat + 1 := by
  have hw : w ≠ 0 := by
    rintro rfl
    omega
  have hone : (1#w).toNat = 1 := toNat_ofNat_of_lt (Nat.one_lt_two_pow hw)
  rw [BitVec.toNat_add, hone, Nat.mod_eq_of_lt (by omega)]

theorem toNat_sub_one {b : BitVec 5} (h : b ≠ 0) : (b - 1).toNat + 1 = b.toNat := by
  have hone : (1 : BitVec 5).toNat = 1 := rfl
  have hpos := toNat_pos_iff.mpr h
  rw [BitVec.toNat_sub_of_le (BitVec.le_def.mpr (by omega)), hone]
  omega

/-- In DATA, a bit that is not the frame's last and ends a byte is followed by another byte. -/
theorem Tx.HoldsFrame.next_byte (h : t.HoldsFrame) (hstate : t.txState = .data) (hbyte : t.byteIdx.toNat ≤ 8)
    (hlast : t.lastBit f = false) (hbit : 8 ≤ t.bitIdx.toNat) : t.byteIdx.toNat + 1 < t.txLen.toNat := by
  have hmore : t.lastByte = false := by
    obtain h7 | hmore | ⟨h7, -⟩ := Tx.lastBit_eq_false_iff.mp hlast
    · omega
    · exact hmore
    · omega
  rw [lastByte_eq hbyte, decide_eq_false_iff_not] at hmore
  have hsending := h.sending hstate
  omega

theorem Tx.LongPulseOfZero.of_data (h : t.txState = .data) : t.LongPulseOfZero :=
  ⟨fun _ hpre => (nomatch h.symm.trans hpre), fun _ hcut => (nomatch h.symm.trans hcut)⟩

/-- Every case of a tick keeps the transmitter's part of the invariant. -/
theorem Tx.Step.kept (h : Tx.Step f t t') (hslot : f.slot.Legal) (hk : t.Kept) : t'.Kept := by
  obtain ⟨hpos, hframe, hlong⟩ := hk
  have hstarted := hframe.started
  have hbyte := hpos.byteIdx
  cases h with
  | idle => exact ⟨{ hpos with }, { hframe with }, { hlong with }⟩
  | extra => exact ⟨{ hpos with }, { hframe with }, ⟨nofun, nofun⟩⟩
  | ready hacts hstate =>
    obtain ⟨hpre, hpre0⟩ := toNat_preambleLen_le hpos.preambleLen
    refine ⟨{ hpos.loadFrame f with preCnt := hpre }, ⟨fun _ => Tx.loadFrame_txLen hslot, nofun⟩, ⟨fun hzero => ?_, nofun⟩⟩
    exact absurd (of_decide_eq_true hzero) hpre0
  | oneFirst => exact ⟨{ hpos with }, { hframe with }, ⟨nofun, nofun⟩⟩
  | oneSecond hacts hstate hcnt =>
    have hdown : (t.preCnt - 1).toNat ≤ 20 := by
      have hsucc := toNat_sub_one hcnt
      have hle := hpos.preCnt
      omega
    exact ⟨{ hpos with preCnt := hdown }, { hframe with }, ⟨nofun, nofun⟩⟩
  | startFirst hacts hstate hcnt =>
    exact ⟨{ hpos with }, { hframe with },
    ⟨fun _ _ => ⟨hcnt, rfl⟩, fun _ h => (nomatch hstate.symm.trans h)⟩⟩
  | startSecond hacts hstate =>
    have hlen := hstarted (by rw [hstate]; decide)
    exact ⟨{ hpos with byteIdx := Nat.zero_le _, bitIdx := Nat.zero_le _ },
      ⟨fun _ => hlen, fun _ => Nat.lt_of_lt_of_le (by decide : 0 < lenMin) hlen.1⟩, ⟨nofun, nofun⟩⟩
  | bitFirst hacts hstate =>
    exact ⟨{ hpos with }, { hframe with }, .of_data hstate⟩
  | bitInside hacts hstate hsel hlast hbit =>
    have hnext : (t.bitIdx + 1).toNat ≤ 8 := by
      have hsucc : (t.bitIdx + 1).toNat = t.bitIdx.toNat + 1 := toNat_add_one hbit (by decide)
      omega
    exact ⟨{ hpos with bitIdx := hnext }, { hframe with },
      .of_data hstate⟩
  | bitNextByte hacts hstate hsel hlast hbit =>
    have hmore := hframe.next_byte hstate hbyte hlast hbit
    have hlen : t.txLen.toNat ≤ 9 := (hstarted (by rw [hstate]; decide)).2
    have hsucc : (t.byteIdx + 1).toNat = t.byteIdx.toNat + 1 := toNat_add_one hbyte (by decide)
    exact ⟨{ hpos with byteIdx := show (t.byteIdx + 1).toNat ≤ 8 by omega, bitIdx := Nat.zero_le _ },
      { hframe with sending := fun _ => show (t.byteIdx + 1).toNat < t.txLen.toNat by omega },
      .of_data hstate⟩
  | bitLastToCutout hacts hstate =>
    exact ⟨{ hpos with cutoutStep := Nat.zero_le _, preambleLen := f.nextPreamble_cases },
      ⟨fun _ => hstarted (by rw [hstate]; decide), nofun⟩, ⟨nofun, fun _ _ => rfl⟩⟩
  | bitLastToReady =>
    exact ⟨{ hpos with preambleLen := f.nextPreamble_cases }, ⟨fun h => absurd rfl h, nofun⟩, ⟨nofun, nofun⟩⟩
  | cutoutNext hin hstep =>
    obtain ⟨hstate, hheld⟩ := Tx.inCutout_eq_true_iff.mp hin
    have hstep18 : t.cutoutStep.toNat ≠ 18 := fun h => hstep (BitVec.eq_of_toNat_eq h)
    have hsucc : (t.cutoutStep + 1).toNat = t.cutoutStep.toNat + 1 := toNat_add_one hpos.cutoutStep (by decide)
    have hle := hpos.cutoutStep
    exact ⟨{ hpos with cutoutStep := show (t.cutoutStep + 1).toNat ≤ 18 by omega }, { hframe with },
      { hlong with inCutout := fun hl hs => absurd ⟨hlong.inCutout hl hs, hl⟩ hheld }⟩
  | cutoutEnd => exact ⟨{ hpos with cutoutStep := Nat.zero_le _ }, ⟨fun h => absurd rfl h, nofun⟩, ⟨nofun, nofun⟩⟩

end Kept

/-! ## A tick -/

theorem Inv.txKept {s : State} (h : Inv s) : s.tx.Kept := ⟨h.position, h.frame, h.longPulse⟩

theorem Inv.statsKept {s : State} (h : Inv s) : s.StatsKept :=
  ⟨h.statForm, fun p hp => (h.statEntries p hp).1, h.counted⟩

theorem Config.legal_iff {c : Config} :
    c.legal = true ↔ 1 ≤ c.ticksPerMs ∧ c.ticksPerMs ≤ 65536 ∧ 1 ≤ c.nLoco ∧ c.nLoco ≤ 255 ∧ 6 ≤ c.rxDepth := by
  simp [Config.legal, and_assoc]

/-- A listed entry reads as itself, so `StatsKept` says of the entries what the invariant says. -/
theorem State.StatsKept.entries {s : State} (h : s.StatsKept) (hlegal : s.cfg.legal = true) :
    ∀ p ∈ s.stat, p.1 < s.cfg.nLoco ∧ p.2.Counted := by
  intro p hp
  have hlt := h.bound p hp
  obtain ⟨-, -, -, hn, -⟩ := Config.legal_iff.mp hlegal
  have hidx : (BitVec.ofNat 8 p.1).toNat = p.1 := toNat_ofNat_of_lt (show p.1 < 2 ^ 8 by omega)
  have hread : s.statAt (BitVec.ofNat 8 p.1) = p.2 := by rw [State.statAt, hidx, Memory.read_of_mem h.form hp]
  exact ⟨hlt, hread ▸ h.counted _⟩

theorem tick_txKept {s : State} (hslot : s.buf.Legal) (hk : s.tx.Kept) : (tick s).tx.Kept := by
  rw [tick_tx]
  exact (Tx.tick_step _ _).kept hslot hk

theorem tick_bufLegal {s : State} (hslot : s.buf.Legal) : (tick s).buf.Legal := by
  obtain h | h := (tick_frame s).buf <;> rw [h]
  · exact hslot
  · exact .inl rfl

theorem inv_tick {s : State} (h : Inv s) : Inv (tick s) := by
  have hframe := tick_frame s
  obtain ⟨hposition, htxFrame, hlongPulse⟩ := tick_txKept h.slotLen h.txKept
  have hcfg : (tick s).cfg = s.cfg := hframe.cfg
  have hlegal : (tick s).cfg.legal = true := hcfg ▸ h.parameters
  have hstats : (tick s).StatsKept := hframe.statsKept { h.statsKept with }
  obtain ⟨-, hticks, -⟩ := Config.legal_iff.mp h.parameters
  have powered {b : Bool} (hb : b = true → s.ctl.boosterOn = true) (h : b = true ∨ s.ctl.boosterOn = true) :
      (tick s).ctl.boosterOn = true := hframe.ctl ▸ h.elim hb id
  exact {
    position := hposition
    frame := htxFrame
    longPulse := hlongPulse
    slotLen := tick_bufLegal h.slotLen
    cutoutPowered := fun hact => powered h.cutoutPowered (hframe.cutoutAct hact)
    receiverPowered := fun hrx => powered h.receiverPowered (hframe.rxEn hrx)
    statForm := hstats.form
    statEntries := hstats.entries hlegal
    locoAddrForm := hframe.locoAddr ▸ h.locoAddrForm
    locoAddrEntries := by rw [hframe.locoAddr, hcfg]; exact h.locoAddrEntries
    prescaler := by rw [hframe.time, hcfg]; exact (Time.ticked_counts h.prescaler hticks).1
    fifo := by
      rw [hcfg]
      obtain hf | hf := hframe.fifo <;> rw [hf]
      · exact h.fifo
      · exact Nat.zero_le _
    parameters := hlegal
    portIdle := hframe.opPort.trans h.portIdle }

/-! ## The other agents -/

theorem statReset_statsKept (idx : BitVec 8) {s : State} (h : s.StatsKept) : (statReset idx s).StatsKept := by
  have htouches : TouchesEntry idx s (statReset idx s) := .updStat idx s _
  have hbound := htouches.bound h.bound
  refine ⟨htouches.wf h.form, hbound, fun k => ?_⟩
  rw [statReset, statAt_updStat_eq h.form]
  split
  · exact StatEntry.counted_zero
  · exact h.counted k

/-- The address check keeps both tables (R214). -/
theorem inv_noteAddress (idx : BitVec 8) (a : BitVec 16) {s : State} (h : Inv s) : Inv (noteAddress idx a s) := by
  unfold noteAddress
  split
  case isFalse => exact h
  case isTrue hchanged =>
    obtain ⟨hslot, -⟩ := addressChanged_eq_true_iff.mp hchanged
    have hloco : Inv (s.setLocoAddrAt idx a) :=
      { h with
        locoAddrForm := setLocoAddrAt_wf s idx a h.locoAddrForm
        locoAddrEntries := fun p hp => by
          obtain ⟨rfl, -⟩ | hp := Memory.mem_write hp
          · exact hslot
          · exact h.locoAddrEntries p hp }
    have hstats := statReset_statsKept idx hloco.statsKept
    have hentries := hstats.entries
    have hform := hstats.form
    rw [statReset, updStat_eq] at hentries hform ⊢
    exact { hloco with statForm := hform, statEntries := hentries h.parameters }

theorem boosterOff_statsKept {s : State} (h : s.StatsKept) : (boosterOff s).StatsKept where
  form := Memory.mapBelow_wf _ _ h.form
  bound := fun p hp => by
    obtain ⟨q, hq, hqp, -⟩ := Memory.mem_mapBelow hp
    exact hqp ▸ h.bound q hq
  counted := fun k => by
    rw [statAt_boosterOff_of_bounded h.form h.bound]
    exact { h.counted k with }

theorem ForegroundEffect.inv {s t : State} (h : ForegroundEffect s t) (hinv : Inv s) : Inv t := by
  cases h with
  | held => exact hinv
  | answered | refused | modeSet | inhibitSet | cvCleared | xpomCleared | dynCleared | addrCleared => exact { hinv with }
  | poweredOn => exact { hinv with cutoutPowered := fun _ => rfl, receiverPowered := fun _ => rfl }
  | poweredOff =>
    have hstats := boosterOff_statsKept hinv.statsKept
    exact { hinv with
      cutoutPowered := nofun, receiverPowered := nofun
      statForm := hstats.form, statEntries := hstats.entries hinv.parameters }
  | filled idx a payload hlegal =>
    obtain ⟨hmin, hmax⟩ := submitRefused_eq_false_iff.mp hlegal
    have hnote := inv_noteAddress idx a hinv
    have hlen := fillSlot_bufLen_toNat idx hmax (noteAddress idx a s)
    have hfilled : (fillSlot idx (assemble a payload) (noteAddress idx a s)).buf.Legal :=
      .inr ⟨hlen ▸ hmin, hlen ▸ hmax⟩
    exact { hnote with slotLen := hfilled }

theorem inv_rxAppend (b : Byte) {s : State} (h : Inv s) : Inv (rxAppend b s) := by
  by_cases hkept : s.out.rxEn = true ∧ s.rxFifo.length < s.cfg.rxDepth
  · rw [rxAppend_kept hkept.1 hkept.2]
    have hroom : (s.rxFifo ++ [b]).length ≤ s.cfg.rxDepth := by
      rw [List.length_append, List.length_singleton]
      exact hkept.2
    exact { h with fifo := hroom }
  · rw [not_and_or, Bool.not_eq_true, Nat.not_lt] at hkept
    rw [rxAppend_lost hkept]
    exact h

/-- Settles O23, agent by agent. -/
theorem everyStepKeepsTheInvariant : Obligations.EveryStepKeepsTheInvariant := by
  unfold Obligations.EveryStepKeepsTheInvariant
  intro s t h hstep
  have hturns : Inv (s.setTurns s.turns.tail) := { h with }
  cases agentStep_of_step h.portIdle hstep with
  | tick => exact inv_tick hturns
  | foreground _ heffect => exact heffect.inv { hturns with }
  | received => exact inv_rxAppend _ hturns
  | reset => exact { resetSatisfiesTheInvariant.1 s.cfg h.parameters with }

end Sys2Proof.Machine
end

section
/-! PROOFS. A full slot is released, and a held SUBMIT runs (20_memory R75, 70_reset R332): the ticks left before READY
takes the frame, bounded by a measure that every tick lowers. -/

namespace Sys2Proof.Machine

/-! ## The measure -/

/-- The ticks before the next slot starts: the second tick of the half-bit, and two more if it is a long one. -/
def Tx.pending (t : Tx) : Nat := t.halfTick.toNat + 2 * t.longPulse.toNat

/-- Ticks of the bits of a frame that are left from bit `j` of byte `i` on, all taken as zeros, with the end bit and the
cutout after them. -/
def Tx.dataTicks (endBit : Bool) (t : Tx) (i j : Nat) : Nat :=
  72 * (t.txLen.toNat - 1 - i) + (64 - 8 * j) + 4 * endBit.toNat + 19

/-- The bit being sent is the one after the last byte. -/
def Tx.atEndBit (t : Tx) : Bool := decide (8 ≤ t.bitIdx.toNat) && t.lastByte

/-- Ticks from the start of the next slot until READY has taken the next frame, at most. -/
def Tx.slotTicks (endBit : Bool) (t : Tx) : Nat :=
  match t.txState with
  | .ready => 1
  | .preamble => 4 * t.preCnt.toNat + 8 - t.halfSel.toNat * (if t.preCnt = 0 then 4 else 2) + t.dataTicks endBit 0 0
  | .data =>
    if t.atEndBit then 23 - 2 * t.halfSel.toNat
    else t.dataTicks endBit t.byteIdx.toNat t.bitIdx.toNat - 4 * t.halfSel.toNat
  | .cutout => 19

/-- Ticks until READY has taken the next frame, at most. -/
def Tx.ticksToFetch (endBit : Bool) (t : Tx) : Nat :=
  if t.inCutout then 20 - t.cutoutStep.toNat else t.pending + t.slotTicks endBit

section Measure
variable {f : Feed} {t t' : Tx} {e : Bool}

theorem Tx.ticksToFetch_inCutout (h : t.inCutout = true) : t.ticksToFetch e = 20 - t.cutoutStep.toNat := if_pos h

theorem Tx.ticksToFetch_divides (h : t.inCutout = false) : t.ticksToFetch e = t.pending + t.slotTicks e := by
  rw [Tx.ticksToFetch, h, if_neg Bool.false_ne_true]

theorem Tx.inCutout_of_ne (h : t.txState ≠ .cutout) : t.inCutout = false := Tx.inCutout_eq_false_iff.mpr (.inl h)

theorem Tx.ticksToFetch_ready (h : t.txState = .ready) : t.ticksToFetch e = t.pending + 1 := by
  rw [Tx.ticksToFetch_divides (Tx.inCutout_of_ne (by rw [h]; decide)), Tx.slotTicks, h]

theorem Tx.ticksToFetch_preamble (h : t.txState = .preamble) :
    t.ticksToFetch e =
      t.pending + (4 * t.preCnt.toNat + 8 - t.halfSel.toNat * (if t.preCnt = 0 then 4 else 2) + t.dataTicks e 0 0) := by
  rw [Tx.ticksToFetch_divides (Tx.inCutout_of_ne (by rw [h]; decide)), Tx.slotTicks, h]

theorem Tx.ticksToFetch_bit (h : t.txState = .data) (hbit : t.atEndBit = false) :
    t.ticksToFetch e = t.pending + (t.dataTicks e t.byteIdx.toNat t.bitIdx.toNat - 4 * t.halfSel.toNat) := by
  rw [Tx.ticksToFetch_divides (Tx.inCutout_of_ne (by rw [h]; decide)), Tx.slotTicks, h]
  exact congrArg (t.pending + ·) (if_neg (hbit ▸ Bool.false_ne_true))

theorem Tx.ticksToFetch_endBit (h : t.txState = .data) (hbit : t.atEndBit = true) :
    t.ticksToFetch e = t.pending + (23 - 2 * t.halfSel.toNat) := by
  rw [Tx.ticksToFetch_divides (Tx.inCutout_of_ne (by rw [h]; decide)), Tx.slotTicks, h]
  exact congrArg (t.pending + ·) (if_pos hbit)

theorem Tx.Acts.pending (h : t.Acts) : t.pending = 0 := by
  rw [Tx.pending, h.halfTick, h.longPulse]
  rfl

theorem Tx.pending_le (t : Tx) : t.pending ≤ 3 := by
  have hhalf := t.halfTick.toNat_le
  have hlong := t.longPulse.toNat_le
  unfold Tx.pending
  omega

/-- The bit after the last byte is a one. -/
theorem Tx.dataBit_of_atEndBit (h : t.atEndBit = true) : t.dataBit = true := by
  obtain ⟨hbit, hlast⟩ := Bool.and_eq_true _ _ ▸ h
  rw [Tx.dataBit, if_neg (Nat.not_lt.mpr (of_decide_eq_true hbit)), hlast]

theorem Tx.atEndBit_of_bit_le (h : t.bitIdx.toNat ≤ 7) : t.atEndBit = false := by
  rw [Tx.atEndBit, decide_eq_false (by omega), Bool.false_and]

/-- In DATA without the bit after the last byte: a bit of the frame that has one before it. -/
theorem Tx.lastByte_of_next (hbit : 8 ≤ t.bitIdx.toNat) (hlast : t.lastBit f = false) : t.lastByte = false := by
  obtain h7 | hmore | ⟨h7, -⟩ := Tx.lastBit_eq_false_iff.mp hlast
  · omega
  · exact hmore
  · omega

/-- The measure in a slot that starts the second half of the frame's last bit. -/
theorem Tx.ticksToFetch_lastBit (hacts : t.Acts) (hstate : t.txState = .data) (hsel : t.halfSel = true)
    (hlast : t.lastBit f = true) : 21 + 2 * (!t.dataBit).toNat ≤ t.ticksToFetch f.endBit := by
  cases hend : t.atEndBit with
  | true =>
    rw [Tx.ticksToFetch_endBit hstate hend, hacts.pending, hsel, Tx.dataBit_of_atEndBit hend]
    decide
  | false =>
    obtain ⟨hbyte, ⟨h7, -⟩ | h8⟩ := Tx.lastBit_eq_true_iff.mp hlast
    · have hlong := (!t.dataBit).toNat_le
      rw [Tx.ticksToFetch_bit hstate hend, hacts.pending, hsel, Tx.dataTicks, h7, Bool.toNat_true]
      omega
    · rw [Tx.atEndBit, decide_eq_true h8, hbyte] at hend
      exact absurd hend (by decide)

/-- Every tick but the one that takes a frame lowers the measure. -/
theorem Tx.Step.ticksToFetch_lt (h : Tx.Step f t t') (hk : t.Kept) (hready : ¬ (t.Acts ∧ t.txState = .ready)) :
    t'.ticksToFetch f.endBit + 1 ≤ t.ticksToFetch f.endBit := by
  obtain ⟨hpos, hframe, hlong⟩ := hk
  have hlong_le := (!t.dataBit).toNat_le
  have hfirst : (0 : BitVec 4).toNat = 0 := rfl
  cases h with
  | idle hin hhalf =>
    have hin' : ({ t with halfTick := false } : Tx).inCutout = false := hin
    have hslot : ({ t with halfTick := false } : Tx).slotTicks f.endBit = t.slotTicks f.endBit := rfl
    rw [Tx.ticksToFetch_divides hin, Tx.ticksToFetch_divides hin', hslot, Tx.pending, Tx.pending, hhalf]
    simp only [Bool.toNat_true, Bool.toNat_false]
    omega
  | extra hin hhalf hlong =>
    have hslot : ({ t with halfTick := true, longPulse := false } : Tx).slotTicks f.endBit = t.slotTicks f.endBit := rfl
    have hpending : t.pending = 2 := by rw [Tx.pending, hhalf, hlong]; rfl
    rw [Tx.ticksToFetch_divides hin, hpending]
    cases hin' : ({ t with halfTick := true, longPulse := false } : Tx).inCutout with
    | true =>
      have hcut : t.txState = .cutout := (Tx.inCutout_eq_true_iff.mp hin').1
      have h19 : t.slotTicks f.endBit = 19 := by rw [Tx.slotTicks, hcut]
      rw [Tx.ticksToFetch_inCutout hin', h19]
      omega
    | false =>
      rw [Tx.ticksToFetch_divides hin', hslot]
      show 1 + _ + 1 ≤ _
      omega
  | ready hacts hstate => exact absurd ⟨hacts, hstate⟩ hready
  | oneFirst hacts hstate hcnt hsel =>
    rw [Tx.ticksToFetch_preamble hstate, Tx.ticksToFetch_preamble, hacts.pending, hsel]
    · simp only [Tx.pending, Tx.dataTicks, Bool.toNat_true, Bool.toNat_false, if_neg hcnt]
      omega
    · exact hstate
  | oneSecond hacts hstate hcnt hsel =>
    have hdown := toNat_sub_one hcnt
    rw [Tx.ticksToFetch_preamble hstate, Tx.ticksToFetch_preamble, hacts.pending, hsel]
    · simp only [Tx.pending, Tx.dataTicks, Bool.toNat_true, Bool.toNat_false, if_neg hcnt]
      omega
    · exact hstate
  | startFirst hacts hstate hcnt hsel =>
    rw [Tx.ticksToFetch_preamble hstate, Tx.ticksToFetch_preamble, hacts.pending, hsel]
    · simp only [Tx.pending, Tx.dataTicks, Bool.toNat_true, Bool.toNat_false, if_pos hcnt]
      omega
    · exact hstate
  | startSecond hacts hstate hcnt hsel =>
    have hnone : t.preCnt.toNat = 0 := congrArg BitVec.toNat hcnt
    rw [Tx.ticksToFetch_preamble hstate, Tx.ticksToFetch_bit, hacts.pending, hsel]
    · simp only [Tx.pending, Tx.dataTicks, Bool.toNat_true, Bool.toNat_false, if_pos hcnt, hnone, hfirst]
      omega
    · rfl
    · rfl
  | bitFirst hacts hstate hsel =>
    cases hend : t.atEndBit with
    | true =>
      rw [Tx.ticksToFetch_endBit hstate hend, Tx.ticksToFetch_endBit, hacts.pending, hsel, Tx.dataBit_of_atEndBit hend]
      · exact Nat.le_refl 23
      · exact hstate
      · exact hend
    | false =>
      rw [Tx.ticksToFetch_bit hstate hend, Tx.ticksToFetch_bit, hacts.pending, hsel]
      · simp only [Tx.pending, Tx.dataTicks, Bool.toNat_true, Bool.toNat_false]
        omega
      · exact hstate
      · exact hend
  | bitInside hacts hstate hsel hlast hbit =>
    have hsucc : (t.bitIdx + 1).toNat = t.bitIdx.toNat + 1 := toNat_add_one hbit (by decide)
    rw [Tx.ticksToFetch_bit hstate (Tx.atEndBit_of_bit_le hbit), hacts.pending, hsel]
    cases hend : ({ t with bitIdx := t.bitIdx + 1 } : Tx).atEndBit with
    | true =>
      obtain ⟨h8, hbyte⟩ := Bool.and_eq_true _ _ ▸ hend
      have h7 : t.bitIdx.toNat = 7 := by
        have h8 : 8 ≤ (t.bitIdx + 1).toNat := of_decide_eq_true h8
        omega
      have he : f.endBit = true := by
        obtain hlt | hmore | ⟨-, he⟩ := Tx.lastBit_eq_false_iff.mp hlast
        · omega
        · exact absurd (hmore.symm.trans hbyte) Bool.false_ne_true
        · exact he
      rw [Tx.ticksToFetch_endBit]
      · simp only [Tx.pending, Tx.dataTicks, Bool.toNat_true, Bool.toNat_false, he, h7]
        omega
      · exact hstate
      · exact hend
    | false =>
      rw [Tx.ticksToFetch_bit]
      · simp only [Tx.pending, Tx.dataTicks, Bool.toNat_true, Bool.toNat_false, hsucc]
        omega
      · exact hstate
      · exact hend
  | bitNextByte hacts hstate hsel hlast hbit =>
    have hmore := hframe.next_byte hstate hpos.byteIdx hlast hbit
    have hsucc : (t.byteIdx + 1).toNat = t.byteIdx.toNat + 1 := toNat_add_one hpos.byteIdx (by decide)
    have hend : t.atEndBit = false := by rw [Tx.atEndBit, Tx.lastByte_of_next hbit hlast, Bool.and_false]
    rw [Tx.ticksToFetch_bit hstate hend, Tx.ticksToFetch_bit, hacts.pending, hsel]
    · simp only [Tx.pending, Tx.dataTicks, Bool.toNat_true, Bool.toNat_false, hsucc, hfirst]
      omega
    · exact hstate
    · rfl
  | bitLastToCutout hacts hstate hsel hlast =>
    have hle := Tx.ticksToFetch_lastBit hacts hstate hsel hlast
    cases hdata : t.dataBit with
    | true =>
      rw [Tx.ticksToFetch_inCutout]
      · show 20 - 0 + 1 ≤ _
        omega
      · rfl
    | false =>
      rw [hdata] at hle
      rw [Tx.ticksToFetch_divides]
      · show 3 + 19 + 1 ≤ _
        exact hle
      · rfl
  | bitLastToReady hacts hstate hsel hlast =>
    have hle := Tx.ticksToFetch_lastBit hacts hstate hsel hlast
    rw [Tx.ticksToFetch_ready rfl, Tx.pending]
    show true.toNat + 2 * (!t.dataBit).toNat + 1 + 1 ≤ _
    rw [Bool.toNat_true]
    omega
  | cutoutNext hin hstep =>
    have hne : t.cutoutStep.toNat ≠ 18 := fun h => hstep (BitVec.eq_of_toNat_eq h)
    have hsucc : (t.cutoutStep + 1).toNat = t.cutoutStep.toNat + 1 := toNat_add_one hpos.cutoutStep (by decide)
    have hle := hpos.cutoutStep
    rw [Tx.ticksToFetch_inCutout hin, Tx.ticksToFetch_inCutout]
    · show 20 - (t.cutoutStep + 1).toNat + 1 ≤ _
      omega
    · refine Tx.inCutout_eq_true_iff.mpr ⟨(Tx.inCutout_eq_true_iff.mp hin).1, fun ⟨hzero, _⟩ => ?_⟩
      have hzero : (t.cutoutStep + 1).toNat = 0 := congrArg BitVec.toNat hzero
      omega
  | cutoutEnd hin hstep =>
    have hshort : t.longPulse = false := by
      refine Bool.eq_false_iff.mpr fun hl => ?_
      have hzero := hlong.inCutout hl (Tx.inCutout_eq_true_iff.mp hin).1
      exact absurd (hstep.symm.trans hzero) (by decide)
    rw [Tx.ticksToFetch_inCutout hin, hstep, Tx.ticksToFetch_ready rfl, Tx.pending, hshort]
    exact Nat.le_refl 2

/-- The measure of any state of the invariant (R332). -/
theorem Tx.Kept.ticksToFetch_le (hk : t.Kept) (e : Bool) : t.ticksToFetch e ≤ 748 + 4 * e.toNat := by
  obtain ⟨hpos, hframe, hlong⟩ := hk
  have hpending := t.pending_le
  have hlen (h : t.txState ≠ .ready) : t.txLen.toNat ≤ 9 := (hframe.started h).2
  obtain hstate | hstate | hstate | hstate := t.txState.eq_cases
  · rw [Tx.ticksToFetch_ready hstate]
    omega
  · have hlen := hlen (by rw [hstate]; decide)
    have hcnt := hpos.preCnt
    have hshort : t.longPulse = true → t.preCnt.toNat = 0 := fun hl => by rw [(hlong.inPreamble hl hstate).1]; rfl
    have hhalf := t.halfTick.toNat_le
    rw [Tx.ticksToFetch_preamble hstate, Tx.dataTicks]
    cases hl : t.longPulse with
    | true =>
      have hzero := hshort hl
      omega
    | false =>
      rw [Tx.pending, hl, Bool.toNat_false]
      omega
  · have hlen := hlen (by rw [hstate]; decide)
    cases hend : t.atEndBit with
    | true =>
      rw [Tx.ticksToFetch_endBit hstate hend]
      omega
    | false =>
      rw [Tx.ticksToFetch_bit hstate hend, Tx.dataTicks]
      omega
  · cases hin : t.inCutout with
    | true =>
      rw [Tx.ticksToFetch_inCutout hin]
      omega
    | false =>
      have h19 : t.slotTicks e = 19 := by rw [Tx.slotTicks, hstate]
      rw [Tx.ticksToFetch_divides hin, h19]
      omega

end Measure

/-! ## A full slot is released -/

/-- Ticks empty the slot, in no more of them than the measure. -/
theorem exists_tick_bufLen_eq_zero {s : State} (hk : s.tx.Kept) (hslot : s.buf.Legal) :
    ∃ n ≤ s.tx.ticksToFetch s.cfg.emitEndBit, (tick^[n] s).buf.bufLen = 0 := by
  induction hm : s.tx.ticksToFetch s.cfg.emitEndBit using Nat.strong_induction_on generalizing s with
  | _ m ih =>
    by_cases hready : s.atReadySlot
    · have hpending : s.tx.ticksToFetch s.cfg.emitEndBit = 1 := by
        obtain ⟨hacts, hstate⟩ := State.atReadySlot_iff.mp hready
        rw [Tx.ticksToFetch_ready hstate, hacts.pending]
      refine ⟨1, by omega, ?_⟩
      show (tick s).buf.bufLen = 0
      rw [(tick_atReadySlot hready).1]
    · have hlt : (tick s).tx.ticksToFetch s.cfg.emitEndBit + 1 ≤ m := by
        rw [tick_tx, ← hm]
        exact (Tx.tick_step s.feed s.tx).ticksToFetch_lt hk (mt State.atReadySlot_iff.mpr hready)
      have hcfg : (tick s).cfg = s.cfg := (tick_frame s).cfg
      obtain ⟨n, hn, hempty⟩ := ih _ (by rw [hcfg]; omega) (tick_txKept hslot hk) (tick_bufLegal hslot) rfl
      rw [hcfg] at hn
      exact ⟨n + 1, by omega, hempty⟩

/-- The bound of R332, with and without an end bit. -/
theorem exists_tick_bufLen_eq_zero_le {s : State} (hk : s.tx.Kept) (hslot : s.buf.Legal) :
    ∃ n ≤ 748 + (if s.cfg.emitEndBit then 4 else 0), (tick^[n] s).buf.bufLen = 0 := by
  obtain ⟨n, hn, hempty⟩ := exists_tick_bufLen_eq_zero hk hslot
  have hle := hk.ticksToFetch_le s.cfg.emitEndBit
  refine ⟨n, hn.trans (hle.trans_eq ?_), hempty⟩
  cases s.cfg.emitEndBit <;> rfl

/-- Settles O21, by the measure. -/
theorem fullSlotIsReleasedInBoundedTicks : Obligations.FullSlotIsReleasedInBoundedTicks := by
  unfold Obligations.FullSlotIsReleasedInBoundedTicks
  intro s hinv honly
  obtain ⟨n, hn, hempty⟩ := exists_tick_bufLen_eq_zero_le hinv.txKept hinv.slotLen
  exact ⟨n, _, hn, runSteps_onlyTicks honly n, hempty⟩

/-! ## A held SUBMIT runs (R75, log 30) -/

theorem runSteps_succ {n : Nat} {s t u : State} (h : s.runSteps n = some t) (hstep : step t = .next u) :
    s.runSteps (n + 1) = some u := by
  induction n generalizing s with
  | zero =>
    obtain rfl := Option.some.inj h
    rw [State.runSteps, hstep]
    rfl
  | succ n ih =>
    rw [State.runSteps] at h ⊢
    split at h
    case h_1 => exact ih h
    all_goals cases h

/-- While the slot is full, a SUBMIT at the port waits and ticks pass. -/
theorem runSteps_held {s : State} {inv : Invocation} {idx : BitVec 8} {a : BitVec 16} {payload : List Byte}
    (hport : s.opPort = some inv) (hdecode : decode inv = .ok (.submit idx a payload))
    (hlegal : submitRefused a payload = false) {n : Nat} (hfull : ∀ k < n, (tick^[k] s).buf.bufLen ≠ 0) :
    s.runSteps n = some (tick^[n] s) ∧ (tick^[n] s).opPort = some inv := by
  induction n with
  | zero => exact ⟨rfl, hport⟩
  | succ n ih =>
    obtain ⟨hrun, hport'⟩ := ih fun k hk => hfull k (Nat.lt_succ_of_lt hk)
    have hheld := held_submit (idx := idx) hlegal (hfull n (Nat.lt_succ_self n))
    have hstep : step (tick^[n] s) = .next (tick (tick^[n] s)) := by
      rw [step_of_port hport', opTurn_held hdecode hheld, exec_tick]
    rw [Function.iterate_succ_apply']
    exact ⟨runSteps_succ hrun hstep, (tick_sameSetting _).opPort.trans hport'⟩

/-- A frame store holds, first, the bytes stored from its start on. -/
theorem take_storeBytes {l : List Byte} (h : l.length ≤ 9) (v : Vector Byte 9) :
    (storeBytes 0 l v).toList.take l.length = l := by
  refine List.ext_getElem? fun j => ?_
  rw [List.getElem?_take]
  split
  case isTrue hj =>
    have hstored := getElem?_storeBytes l 0 j v (show j < 9 by omega)
    rw [if_pos ⟨Nat.zero_le j, by omega⟩] at hstored
    simpa using hstored
  case isFalse hj => rw [List.getElem?_eq_none (Nat.le_of_not_lt hj)]

theorem take_fillSlot (idx : BitVec 8) {frame : List Byte} (h : frame.length ≤ 9) (s : State) :
    (fillSlot idx frame s).buf.bufBytes.toList.take (fillSlot idx frame s).buf.bufLen.toNat = frame := by
  rw [fillSlot_bufLen_toNat idx h]
  exact take_storeBytes h _

/-- Settles O22: ticks pass until the first that empties the slot, and then the SUBMIT fills it. -/
theorem heldSubmitRunsWhenTheSlotIsReleased : Obligations.HeldSubmitRunsWhenTheSlotIsReleased := by
  unfold Obligations.HeldSubmitRunsWhenTheSlotIsReleased
  intro s idx a payload hinv hmin hmax hport
  have hdecode := decode_encode_submit idx a payload
  have hlegal : submitRefused a payload = false := submitRefused_eq_false_iff.mpr ⟨hmin, hmax⟩
  obtain ⟨bound, hbound, hempty⟩ := exists_tick_bufLen_eq_zero_le (s := s) hinv.txKept hinv.slotLen
  obtain ⟨n, hn, hempty, hfull⟩ : ∃ n ≤ bound, (tick^[n] s).buf.bufLen = 0 ∧ ∀ k < n, (tick^[k] s).buf.bufLen ≠ 0 :=
    have hrelease : ∃ n, (tick^[n] s).buf.bufLen = 0 := ⟨bound, hempty⟩
    ⟨Nat.find hrelease, Nat.find_min' hrelease hempty, Nat.find_spec hrelease, fun _ hk => Nat.find_min hrelease hk⟩
  obtain ⟨hrun, hport'⟩ := runSteps_held hport hdecode hlegal hfull
  have hstep := step_of_port hport'
  rw [opTurn_runs hdecode (held_eq_false_of_empty _ hempty), exec_submit] at hstep
  refine ⟨n + 1, _, by omega, runSteps_succ hrun hstep, ?_⟩
  obtain ⟨hrefused, -⟩ | ⟨-, hbusy, -⟩ | ⟨-, -, hsubmit⟩ := submit_cases idx a payload ((tick^[n] s).setOpPort none)
  · exact absurd (hlegal.symm.trans hrefused) Bool.false_ne_true
  · exact absurd hempty ((busy_eq_true_iff _).mp hbusy)
  · obtain ⟨st, la, hnote⟩ := noteAddress_writes idx a ((tick^[n] s).setOpPort none)
    rw [hsubmit, hnote]
    exact ⟨rfl, rfl, take_fillSlot idx hmax _⟩

end Sys2Proof.Machine
end

section
/-! PROOFS. The waveform of a frame (30_encoding R80, R81, 40_tick R121): what a run of ticks emits, half-bit by half-bit,
then bit by bit, then byte by byte. -/

namespace Sys2Proof.Machine

/-! ## What a run of ticks emits -/

/-- The ticks from `s` to `t` show the polarities `w`. -/
inductive Emits : State → List Bool → State → Prop
  | nil (s : State) : Emits s [] s
  | cons {s t : State} {p : Bool} {w : List Bool} (hpol : (tick s).out.trackPol = p) (h : Emits (tick s) w t) :
      Emits s (p :: w) t

theorem Emits.append {s t u : State} {w w' : List Bool} (h : Emits s w t) (h' : Emits t w' u) : Emits s (w ++ w') u := by
  induction h with
  | nil => exact h'
  | cons hpol _ ih => exact .cons hpol (ih h')

theorem Emits.cfg {s t : State} {w : List Bool} (h : Emits s w t) : t.cfg = s.cfg := by
  induction h with
  | nil => rfl
  | cons _ _ ih => exact ih.trans (tick_sameSetting _).cfg

theorem Emits.polarities_eq {s t : State} {w : List Bool} (h : Emits s w t) (honly : s.onlyTicks) :
    polarities w.length s = w := by
  induction h with
  | nil => rfl
  | cons hpol _ ih =>
    rw [List.length_cons, polarities, step_onlyTicks honly]
    exact congrArg₂ _ hpol (ih (onlyTicks_tick honly))

/-! ## A half-bit -/

/-- Two ticks of a polarity, four if the half-bit is one of a zero (R81). -/
def halfWave (v p : Bool) : List Bool := if v then [p, p] else [p, p, p, p]

theorem bitWave_eq (v : Bool) : bitWave v = halfWave v true ++ halfWave v false := by
  cases v <;> rfl

section Half
variable {s : State}

theorem tick_idle (hin : s.tx.inCutout = false) (hhalf : s.tx.halfTick = true) :
    (tick s).out.trackPol = s.out.trackPol ∧ (tick s).tx = { s.tx with halfTick := false } := by
  rw [tick_divides hin, divided_idle (s := s.ticked) hhalf]
  exact ⟨rfl, rfl⟩

theorem tick_extra (hin : s.tx.inCutout = false) (hhalf : s.tx.halfTick = false) (hlong : s.tx.longPulse = true) :
    (tick s).out.trackPol = s.out.trackPol ∧ (tick s).tx = { s.tx with halfTick := true, longPulse := false } := by
  rw [tick_divides hin, divided_extra (s := s.ticked) hhalf hlong]
  exact ⟨rfl, rfl⟩

/-- The first tick of a cutout leaves the polarity alone (R142). -/
theorem tick_cutoutStart (hin : s.tx.inCutout = true) (hstep : s.tx.cutoutStep = 0) :
    (tick s).out.trackPol = s.out.trackPol := by
  have hzero : s.ticked.tx.cutoutStep.toNat = 0 := congrArg BitVec.toNat hstep
  rw [tick_inCutout hin, cutoutStep_out, hzero, Out.cutoutTick]
  show (s.ctl.boosterOn && false || s.out.trackPol) = _
  rw [Bool.and_false, Bool.false_or]

/-- The last tick of a half-bit, whether the next slot or a cutout follows. -/
theorem emits_rest (hhalf : s.tx.halfTick = true) (hcut : s.tx.txState = .cutout → s.tx.cutoutStep = 0) :
    (tick s).out.trackPol = s.out.trackPol ∧ (s.tx.txState ≠ .cutout → (tick s).tx = { s.tx with halfTick := false }) := by
  cases hin : s.tx.inCutout with
  | true =>
    have hstate := (Tx.inCutout_eq_true_iff.mp hin).1
    exact ⟨tick_cutoutStart hin (hcut hstate), fun h => absurd hstate h⟩
  | false => exact ⟨(tick_idle hin hhalf).1, fun _ => (tick_idle hin hhalf).2⟩

/-- A half-bit that a tick has started is emitted to its end. -/
theorem emits_half {v p : Bool} (hhalf : (tick s).tx.halfTick = true) (hlong : (tick s).tx.longPulse = !v)
    (hcut : (tick s).tx.txState = .cutout → (tick s).tx.cutoutStep = 0) (hpol : (tick s).out.trackPol = p) :
    ∃ t, Emits s (halfWave v p) t ∧
      ((tick s).tx.txState ≠ .cutout → t.tx = { (tick s).tx with halfTick := false, longPulse := false }) := by
  cases v with
  | true =>
    obtain ⟨hrest, htx⟩ := emits_rest hhalf hcut
    refine ⟨_, .cons hpol (.cons (hrest.trans hpol) (.nil _)), fun hstate => ?_⟩
    have hshort : (tick s).tx.longPulse = false := hlong
    exact (htx hstate).trans (congrArg (fun b => { (tick s).tx with halfTick := false, longPulse := b }) hshort)
  | false =>
    have hin : (tick s).tx.inCutout = false :=
      Tx.inCutout_eq_false_iff.mpr ((ne_or_eq _ _).imp id fun hstate => ⟨hcut hstate, hlong⟩)
    obtain ⟨hpol1, htx1⟩ := tick_idle hin hhalf
    have hin1 : (tick (tick s)).tx.inCutout = false := by rw [htx1]; exact hin
    obtain ⟨hpol2, htx2⟩ := tick_extra hin1 (by rw [htx1]) (by rw [htx1]; exact hlong)
    rw [htx1] at htx2
    obtain ⟨hpol3, htx3⟩ := emits_rest (s := tick (tick (tick s))) (by rw [htx2]) (by rw [htx2]; exact hcut)
    refine ⟨_, .cons hpol (.cons (hpol1.trans hpol) (.cons (hpol2.trans (hpol1.trans hpol))
      (.cons (hpol3.trans (hpol2.trans (hpol1.trans hpol))) (.nil _)))), fun hstate => ?_⟩
    rw [htx3 (by rw [htx2]; exact hstate), htx2]

end Half

/-! ## A bit of the preamble or of the frame -/

/-- The bit about to be sent. -/
def Tx.currentBit (t : Tx) : Bool := if t.txState = .preamble then decide (t.preCnt ≠ 0) else t.dataBit

/-- Where the transmitter stands once a bit that is not the frame's last is sent. -/
def Tx.afterBit (t : Tx) : Tx :=
  let t' : Tx := { t with halfSel := false, halfTick := false, longPulse := false }
  if t.txState = .preamble then
    if t.preCnt = 0 then { t' with txState := .data, byteIdx := 0, bitIdx := 0 } else { t' with preCnt := t.preCnt - 1 }
  else if t.bitIdx.toNat ≤ 7 then { t' with bitIdx := t.bitIdx + 1 }
  else { t' with byteIdx := t.byteIdx + 1, bitIdx := 0 }

/-- The transmitter sends a preamble or a frame. -/
def Tx.Sending (t : Tx) : Prop := t.txState = .preamble ∨ t.txState = .data

section Bit
variable {f : Feed} {t x : Tx}

theorem Tx.Sending.ne_cutout (h : t.Sending) : t.txState ≠ .cutout := by
  obtain h | h := h <;> rw [h] <;> decide

theorem Tx.Sending.ne_ready (h : t.Sending) : t.txState ≠ .ready := by
  obtain h | h := h <;> rw [h] <;> decide

theorem Tx.currentBit_preamble (h : t.txState = .preamble) : t.currentBit = decide (t.preCnt ≠ 0) := if_pos h

theorem Tx.currentBit_data (h : t.txState = .data) : t.currentBit = t.dataBit := if_neg (by rw [h]; decide)

theorem Tx.afterBit_one (h : t.txState = .preamble) (hcnt : t.preCnt ≠ 0) :
    t.afterBit = { t with halfSel := false, halfTick := false, longPulse := false, preCnt := t.preCnt - 1 } := by
  rw [Tx.afterBit, if_pos h, if_neg hcnt]

theorem Tx.afterBit_start (h : t.txState = .preamble) (hcnt : t.preCnt = 0) :
    t.afterBit =
      { t with
        halfSel := false, halfTick := false, longPulse := false, txState := .data, byteIdx := 0, bitIdx := 0 } := by
  rw [Tx.afterBit, if_pos h, if_pos hcnt]

theorem Tx.afterBit_inside (h : t.txState = .data) (hbit : t.bitIdx.toNat ≤ 7) :
    t.afterBit = { t with halfSel := false, halfTick := false, longPulse := false, bitIdx := t.bitIdx + 1 } := by
  rw [Tx.afterBit, if_neg (by rw [h]; decide), if_pos hbit]

theorem Tx.afterBit_nextByte (h : t.txState = .data) (hbit : 8 ≤ t.bitIdx.toNat) :
    t.afterBit =
      { t with halfSel := false, halfTick := false, longPulse := false, byteIdx := t.byteIdx + 1, bitIdx := 0 } := by
  rw [Tx.afterBit, if_neg (by rw [h]; decide), if_neg (by omega)]

/-- A slot that starts the first half of a bit. -/
theorem Tx.Step.first (h : Tx.Step f t x) (hacts : t.Acts) (hsending : t.Sending) (hsel : t.halfSel = false) :
    x = { t with halfTick := true, longPulse := !t.currentBit, halfSel := true } := by
  have second {p : Prop} (h : t.halfSel = true) : p := absurd (hsel.symm.trans h) Bool.false_ne_true
  cases h with
  | idle _ hhalf => exact absurd (hacts.halfTick.symm.trans hhalf) Bool.false_ne_true
  | extra _ _ hlong => exact absurd (hacts.longPulse.symm.trans hlong) Bool.false_ne_true
  | ready _ hstate => exact absurd hstate hsending.ne_ready
  | oneFirst _ hstate hcnt => rw [Tx.currentBit_preamble hstate, decide_eq_true hcnt]; rfl
  | startFirst _ hstate hcnt => rw [Tx.currentBit_preamble hstate, decide_eq_false (not_not.mpr hcnt)]; rfl
  | bitFirst _ hstate => rw [Tx.currentBit_data hstate]
  | oneSecond _ _ _ h | startSecond _ _ _ h | bitInside _ _ h | bitNextByte _ _ h | bitLastToCutout _ _ h
  | bitLastToReady _ _ h => exact second h
  | cutoutNext hin | cutoutEnd hin => exact absurd (Tx.inCutout_eq_true_iff.mp hin).1 hsending.ne_cutout

/-- A slot that starts the second half of a bit: after the frame's last bit READY or step 0 of a cutout follows, after
any other the next position. -/
theorem Tx.Step.second (h : Tx.Step f t x) (hacts : t.Acts) (hsending : t.Sending) (hsel : t.halfSel = true) :
    x.halfTick = true ∧ x.longPulse = !t.currentBit ∧ (x.txState = .cutout → x.cutoutStep = 0) ∧
      ((t.txState = .data → t.lastBit f = false) →
        x.txState ≠ .cutout ∧ { x with halfTick := false, longPulse := false } = t.afterBit) := by
  have first {p : Prop} (h : t.halfSel = false) : p := absurd (hsel.symm.trans h) Bool.noConfusion
  have inside {y : Tx} (hstate : y.txState = t.txState) : y.txState = .cutout → y.cutoutStep = 0 := fun h =>
    absurd (hstate.symm.trans h) hsending.ne_cutout
  cases h with
  | idle _ hhalf => exact absurd (hacts.halfTick.symm.trans hhalf) Bool.false_ne_true
  | extra _ _ hlong => exact absurd (hacts.longPulse.symm.trans hlong) Bool.false_ne_true
  | ready _ hstate => exact absurd hstate hsending.ne_ready
  | oneFirst _ _ _ h | startFirst _ _ _ h | bitFirst _ _ h => exact first h
  | oneSecond _ hstate hcnt =>
    rw [Tx.currentBit_preamble hstate, decide_eq_true hcnt, Tx.afterBit_one hstate hcnt]
    exact ⟨rfl, rfl, inside rfl, fun _ => ⟨hsending.ne_cutout, rfl⟩⟩
  | startSecond _ hstate hcnt =>
    rw [Tx.currentBit_preamble hstate, decide_eq_false (not_not.mpr hcnt), Tx.afterBit_start hstate hcnt]
    exact ⟨rfl, rfl, nofun, fun _ => ⟨nofun, rfl⟩⟩
  | bitInside _ hstate _ _ hbit =>
    rw [Tx.currentBit_data hstate, Tx.afterBit_inside hstate hbit]
    exact ⟨rfl, rfl, inside rfl, fun _ => ⟨hsending.ne_cutout, rfl⟩⟩
  | bitNextByte _ hstate _ _ hbit =>
    rw [Tx.currentBit_data hstate, Tx.afterBit_nextByte hstate hbit]
    exact ⟨rfl, rfl, inside rfl, fun _ => ⟨hsending.ne_cutout, rfl⟩⟩
  | bitLastToCutout _ hstate _ hlast =>
    rw [Tx.currentBit_data hstate]
    exact ⟨rfl, rfl, fun _ => rfl, fun hmore => absurd ((hmore hstate).symm.trans hlast) Bool.false_ne_true⟩
  | bitLastToReady _ hstate _ hlast =>
    rw [Tx.currentBit_data hstate]
    exact ⟨rfl, rfl, nofun, fun hmore => absurd ((hmore hstate).symm.trans hlast) Bool.false_ne_true⟩
  | cutoutNext hin | cutoutEnd hin => exact absurd (Tx.inCutout_eq_true_iff.mp hin).1 hsending.ne_cutout

end Bit

theorem tick_trackPol {s : State} (hacts : s.tx.Acts) (hsending : s.tx.Sending) :
    (tick s).out.trackPol = !s.tx.halfSel := by
  have hslot : (s.ticked.setTx { s.ticked.tx with halfTick := true }).tx.txState = s.tx.txState := rfl
  rw [tick_divides (Tx.inCutout_of_ne hsending.ne_cutout),
    divided_slot (s := s.ticked) hacts.halfTick hacts.longPulse, slot_eq, State.slotOut, hslot]
  obtain h | h := hsending <;> rw [h] <;> rfl

theorem Tx.lastBit_congr {f f' : Feed} (h : f.endBit = f'.endBit) (t : Tx) : t.lastBit f = t.lastBit f' := by
  rw [Tx.lastBit, Tx.lastBit, h]

/-- The second half of a bit, emitted to its end. -/
theorem emits_second {s : State} (hacts : s.tx.Acts) (hsending : s.tx.Sending) (hsel : s.tx.halfSel = true) :
    ∃ t, Emits s (halfWave s.tx.currentBit false) t ∧
      ((s.tx.txState = .data → s.tx.lastBit s.feed = false) → t.tx = s.tx.afterBit) := by
  obtain ⟨hhalf, hlong, hcut, hnext⟩ := (Tx.tick_step s.feed s.tx).second hacts hsending hsel
  rw [← tick_tx] at hhalf hlong hcut hnext
  obtain ⟨t, hemits, htx⟩ := emits_half hhalf hlong hcut ((tick_trackPol hacts hsending).trans (by rw [hsel]))
  exact ⟨t, hemits, fun hmore => (htx (hnext hmore).1).trans (hnext hmore).2⟩

/-- A bit is emitted, and the transmitter moves on if it is not the frame's last. -/
theorem emits_bit {s : State} (hacts : s.tx.Acts) (hsending : s.tx.Sending) (hsel : s.tx.halfSel = false) :
    ∃ t, Emits s (bitWave s.tx.currentBit) t ∧
      ((s.tx.txState = .data → s.tx.lastBit s.feed = false) → t.tx = s.tx.afterBit) := by
  have hfirst : (tick s).tx = { s.tx with halfTick := true, longPulse := !s.tx.currentBit, halfSel := true } := by
    rw [tick_tx]
    exact (Tx.tick_step s.feed s.tx).first hacts hsending hsel
  have hne : (tick s).tx.txState ≠ .cutout := by rw [hfirst]; exact hsending.ne_cutout
  obtain ⟨u, hemits, hu⟩ := emits_half (v := s.tx.currentBit) (by rw [hfirst]) (by rw [hfirst]) (fun h => absurd h hne)
    ((tick_trackPol hacts hsending).trans (by rw [hsel]))
  have hu := hu hne
  rw [hfirst] at hu
  have hfeed : u.feed.endBit = s.feed.endBit := congrArg Config.emitEndBit hemits.cfg
  obtain ⟨t, hemits', ht⟩ := emits_second (s := u) (by rw [hu]; exact ⟨rfl, rfl⟩) (by rw [hu]; exact hsending) (by rw [hu])
  rw [hu] at hemits' ht
  refine ⟨t, bitWave_eq _ ▸ hemits.append hemits', fun hmore => ht fun hstate => ?_⟩
  exact (Tx.lastBit_congr hfeed s.tx).trans (hmore hstate)

/-! ## The preamble and the bytes -/

/-- The transmitter sends bit `j` of byte `i` of a frame, the first `len` bytes of the store; `j` = 8 is what follows the
byte. -/
structure SendsBit (e : Bool) (store : Vector Byte 9) (len i j : Nat) (s : State) : Prop where
  endBit : s.cfg.emitEndBit = e
  acts : s.tx.Acts
  halfSel : s.tx.halfSel = false
  txState : s.tx.txState = .data
  txBytes : s.tx.txBytes = store
  txLen : s.tx.txLen.toNat = len
  byteIdx : s.tx.byteIdx.toNat = i
  bitIdx : s.tx.bitIdx.toNat = j
  len_le : len ≤ 9
  lt_len : i < len

/-- The value of bit `j` of byte `i`. -/
def frameBit (store : Vector Byte 9) (len i j : Nat) : Bool :=
  if j < 8 then (store.toList.getD i 0).getLsbD (7 - j) else decide (i + 1 = len)

section Frame
variable {e : Bool} {store : Vector Byte 9} {len i j : Nat} {s : State}

theorem SendsBit.emits (h : SendsBit e store len i j s) :
    ∃ t, Emits s (bitWave (frameBit store len i j)) t ∧
      ((i + 1 = len → j < 7 ∨ j = 7 ∧ e = true) → t.tx = s.tx.afterBit) := by
  obtain ⟨hend, hacts, hsel, hstate, hbytes, hlen, hi, hj, hlen9, hlt⟩ := h
  have hi8 : s.tx.byteIdx.toNat ≤ 8 := by omega
  obtain ⟨t, hemits, ht⟩ := emits_bit hacts (.inr hstate) hsel
  rw [Tx.currentBit_data hstate, dataBit_eq hi8, hbytes, hlen, hi, hj] at hemits
  refine ⟨t, hemits, fun hmore => ht fun _ => Tx.lastBit_eq_false_iff.mpr ?_⟩
  rw [hj, lastByte_eq hi8, hi, hlen, decide_eq_false_iff_not]
  have hfeed : s.feed.endBit = e := hend
  by_cases hbyte : i + 1 = len
  · exact (hmore hbyte).imp id fun h => .inr ⟨h.1, hfeed.trans h.2⟩
  · exact .inr (.inl hbyte)

theorem SendsBit.inside (h : SendsBit e store len i j s) (hj7 : j ≤ 7) (hmore : i + 1 = len → j < 7 ∨ j = 7 ∧ e = true) :
    ∃ t, Emits s (bitWave (frameBit store len i j)) t ∧ SendsBit e store len i (j + 1) t := by
  obtain ⟨t, hemits, ht⟩ := h.emits
  obtain ⟨hend, hacts, hsel, hstate, hbytes, hlen, hi, hj, hlen9, hlt⟩ := h
  have ht := ht hmore
  rw [Tx.afterBit_inside hstate (by omega)] at ht
  have hsucc : (s.tx.bitIdx + 1).toNat = s.tx.bitIdx.toNat + 1 := toNat_add_one (hj.trans_le hj7) (by decide)
  refine ⟨t, hemits, hemits.cfg ▸ hend, ?_, ?_, ?_, ?_, ?_, ?_, ?_, hlen9, hlt⟩ <;> rw [ht]
  · exact ⟨rfl, rfl⟩
  · exact hstate
  · exact hbytes
  · exact hlen
  · exact hi
  · exact hsucc.trans (by rw [hj])

theorem SendsBit.nextByte (h : SendsBit e store len i 8 s) (hmore : i + 1 < len) :
    ∃ t, Emits s (bitWave false) t ∧ SendsBit e store len (i + 1) 0 t := by
  obtain ⟨t, hemits, ht⟩ := h.emits
  obtain ⟨hend, hacts, hsel, hstate, hbytes, hlen, hi, hj, hlen9, hlt⟩ := h
  have ht := ht fun hbyte => by omega
  have hdelimiter : frameBit store len i 8 = false := decide_eq_false (by omega)
  rw [Tx.afterBit_nextByte hstate (by omega)] at ht
  rw [hdelimiter] at hemits
  have hsucc : (s.tx.byteIdx + 1).toNat = s.tx.byteIdx.toNat + 1 :=
    toNat_add_one (n := 8) (by omega) (by decide)
  refine ⟨t, hemits, hemits.cfg ▸ hend, ?_, ?_, ?_, ?_, ?_, ?_, ?_, hlen9, hmore⟩ <;> rw [ht]
  · exact ⟨rfl, rfl⟩
  · exact hstate
  · exact hbytes
  · exact hlen
  · exact hsucc.trans (by rw [hi])
  · rfl

/-- The first bits of a byte, as far as they are not the frame's last. -/
theorem SendsBit.bits (h : SendsBit e store len i 0 s) {n : Nat} (hn : n ≤ 8)
    (hmore : i + 1 = len → n ≤ 7 ∨ e = true) :
    ∃ t, Emits s (((List.range n).map (frameBit store len i)).flatMap bitWave) t ∧ SendsBit e store len i n t := by
  induction n with
  | zero => exact ⟨s, .nil s, h⟩
  | succ n ih =>
    obtain ⟨t, hemits, ht⟩ := ih (by omega) fun hbyte => .inl (by omega)
    obtain ⟨u, hemits', hu⟩ := ht.inside (by omega) fun hbyte => (hmore hbyte).elim (fun h => .inl (by omega)) fun he => by
      obtain hlt | heq : n < 7 ∨ n = 7 := by omega
      · exact .inl hlt
      · exact .inr ⟨heq, he⟩
    refine ⟨u, ?_, hu⟩
    rw [List.range_succ, List.map_append, List.flatMap_append, List.map_singleton, List.flatMap_singleton]
    exact hemits.append hemits'

theorem byteBits_eq (store : Vector Byte 9) (len i : Nat) :
    byteBits (store.toList.getD i 0) = (List.range 8).map (frameBit store len i) := rfl

/-- The byte being sent and the bytes after it. -/
theorem drop_take_eq (store : Vector Byte 9) (hlen : len ≤ 9) (hi : i < len) :
    (store.toList.take len).drop i = store.toList.getD i 0 :: (store.toList.take len).drop (i + 1) := by
  have hlength : (store.toList.take len).length = len := by
    rw [List.length_take, Vector.length_toList]
    omega
  rw [List.drop_eq_getElem_cons (by omega), List.getElem_take, List.getD_eq_getElem]

/-- The last byte, with the end bit if there is one. -/
theorem SendsBit.lastByte (h : SendsBit e store len i 0 s) (hlast : i + 1 = len) :
    ∃ t, Emits s ((payloadBits e [store.toList.getD i 0]).flatMap bitWave) t := by
  rw [payloadBits, byteBits_eq store len, List.flatMap_append]
  cases e with
  | true =>
    obtain ⟨t, hemits, ht⟩ := h.bits (Nat.le_refl 8) fun _ => .inr rfl
    obtain ⟨u, hemits', -⟩ := ht.emits
    have hone : frameBit store len i 8 = true := decide_eq_true hlast
    rw [hone] at hemits'
    exact ⟨u, hemits.append hemits'⟩
  | false =>
    obtain ⟨t, hemits, ht⟩ := h.bits (show 7 ≤ 8 by omega) fun _ => .inl (Nat.le_refl 7)
    obtain ⟨u, hemits', -⟩ := ht.emits
    rw [if_neg Bool.false_ne_true, List.flatMap_nil, List.append_nil, List.range_succ, List.map_append,
      List.flatMap_append, List.map_singleton, List.flatMap_singleton]
    exact ⟨u, hemits.append hemits'⟩

/-- A byte that is not the last, with its delimiter. -/
theorem SendsBit.byte (h : SendsBit e store len i 0 s) (hmore : i + 1 < len) :
    ∃ t, Emits s ((byteBits (store.toList.getD i 0) ++ [false]).flatMap bitWave) t ∧
      SendsBit e store len (i + 1) 0 t := by
  obtain ⟨t, hemits, ht⟩ := h.bits (Nat.le_refl 8) fun hbyte => by omega
  obtain ⟨u, hemits', hu⟩ := ht.nextByte hmore
  rw [byteBits_eq store len, List.flatMap_append, List.flatMap_singleton]
  exact ⟨u, hemits.append hemits', hu⟩

/-- The bytes from byte `i` on, with their delimiters and the end bit (R80). -/
theorem SendsBit.payload (h : SendsBit e store len i 0 s) :
    ∃ t, Emits s ((payloadBits e ((store.toList.take len).drop i)).flatMap bitWave) t := by
  induction hleft : len - i generalizing i s with
  | zero =>
    have hlt := h.lt_len
    omega
  | succ n ih =>
    have hlt := h.lt_len
    rw [drop_take_eq store h.len_le hlt]
    by_cases hlast : i + 1 = len
    · have hdone : (store.toList.take len).drop (i + 1) = [] := List.drop_eq_nil_of_le (by rw [List.length_take]; omega)
      rw [hdone]
      exact h.lastByte hlast
    · have hmore : i + 1 < len := by omega
      obtain ⟨t, hemits, ht⟩ := h.byte hmore
      obtain ⟨u, hemits'⟩ := ih ht (by omega)
      rw [drop_take_eq store h.len_le hmore] at hemits' ⊢
      rw [payloadBits, List.flatMap_append]
      exact ⟨u, hemits.append hemits'⟩

/-- The transmitter sends the preamble of that frame, with `count` ones to go. -/
structure SendsPreamble (e : Bool) (store : Vector Byte 9) (len count : Nat) (s : State) : Prop where
  endBit : s.cfg.emitEndBit = e
  acts : s.tx.Acts
  halfSel : s.tx.halfSel = false
  txState : s.tx.txState = .preamble
  txBytes : s.tx.txBytes = store
  txLen : s.tx.txLen.toNat = len
  preCnt : s.tx.preCnt.toNat = count
  len_le : len ≤ 9
  pos_len : 0 < len

theorem SendsPreamble.one {count : Nat} (h : SendsPreamble e store len (count + 1) s) :
    ∃ t, Emits s (bitWave true) t ∧ SendsPreamble e store len count t := by
  obtain ⟨hend, hacts, hsel, hstate, hbytes, hlen, hcnt, hlen9, hpos⟩ := h
  obtain ⟨t, hemits, ht⟩ := emits_bit hacts (.inl hstate) hsel
  have ht := ht fun hdata => nomatch hstate.symm.trans hdata
  have hne : s.tx.preCnt ≠ 0 := toNat_pos_iff.mp (by omega)
  have hdown := toNat_sub_one hne
  rw [Tx.currentBit_preamble hstate, decide_eq_true hne] at hemits
  rw [Tx.afterBit_one hstate hne] at ht
  refine ⟨t, hemits, hemits.cfg ▸ hend, ?_, ?_, ?_, ?_, ?_, ?_, hlen9, hpos⟩ <;> rw [ht]
  · exact ⟨rfl, rfl⟩
  · exact hstate
  · exact hbytes
  · exact hlen
  · show (s.tx.preCnt - 1).toNat = count
    omega

theorem SendsPreamble.start (h : SendsPreamble e store len 0 s) :
    ∃ t, Emits s (bitWave false) t ∧ SendsBit e store len 0 0 t := by
  obtain ⟨hend, hacts, hsel, hstate, hbytes, hlen, hcnt, hlen9, hpos⟩ := h
  obtain ⟨t, hemits, ht⟩ := emits_bit hacts (.inl hstate) hsel
  have ht := ht fun hdata => nomatch hstate.symm.trans hdata
  have hzero : s.tx.preCnt = 0 := BitVec.eq_of_toNat_eq hcnt
  rw [Tx.currentBit_preamble hstate, decide_eq_false (not_not.mpr hzero)] at hemits
  rw [Tx.afterBit_start hstate hzero] at ht
  refine ⟨t, hemits, hemits.cfg ▸ hend, ?_, ?_, ?_, ?_, ?_, ?_, ?_, hlen9, hpos⟩ <;> rw [ht]
  · exact ⟨rfl, rfl⟩
  · exact hbytes
  · exact hlen
  · rfl
  · rfl

/-- The rest of a frame, from inside the preamble on. -/
theorem SendsPreamble.frame {count : Nat} (h : SendsPreamble e store len count s) :
    ∃ t, Emits s (frameWave count e (store.toList.take len)) t := by
  induction count generalizing s with
  | zero =>
    obtain ⟨t, hemits, ht⟩ := h.start
    obtain ⟨u, hemits'⟩ := ht.payload
    exact ⟨u, hemits.append hemits'⟩
  | succ count ih =>
    obtain ⟨t, hemits, ht⟩ := h.one
    obtain ⟨u, hemits'⟩ := ih ht
    exact ⟨u, hemits.append hemits'⟩

end Frame

/-! ## The frame, from the slot that fetches it -/

/-- The frame READY takes is the pending one or the filler. -/
theorem take_loadFrame (s : State) :
    (s.tx.loadFrame s.feed).txBytes.toList.take (s.tx.loadFrame s.feed).txLen.toNat = s.nextFrame := by
  unfold Tx.loadFrame State.nextFrame
  cases hbusy : s.busy with
  | true =>
    have hfull : ¬ s.feed.slot.bufLen = 0 := (busy_eq_true_iff s).mp hbusy
    rw [if_neg hfull]
    rfl
  | false =>
    have hempty : s.feed.slot.bufLen = 0 := (busy_eq_false_iff s).mp hbusy
    rw [if_pos hempty]
    have hthree : (fillerFrame s.ctl.mode).length = 3 := by
      cases s.ctl.mode <;> rfl
    have hfiller := take_storeBytes (l := fillerFrame s.ctl.mode) (by omega) s.tx.txBytes
    rw [hthree] at hfiller
    exact hfiller

/-- The slot that fetches a frame starts a one: no preamble of R42 is empty. -/
theorem tick_tx_atReadySlot {s : State} (hready : s.atReadySlot) (hpre : s.tx.preambleLen ≠ 0) :
    (tick s).tx =
      { s.tx.loadFrame s.feed with
        preCnt := s.tx.preambleLen, halfSel := true, txState := .preamble, halfTick := true, longPulse := false } := by
  obtain ⟨hstate, hhalf, hlong⟩ := hready
  rw [tick_tx, Tx.tick_divides (Tx.inCutout_of_ne (by rw [hstate]; decide)), Tx.divided_slot hhalf hlong,
    Tx.slot_ready (t := { s.tx with halfTick := true }) hstate, Tx.preSlot_ready, Tx.loadFrame_halfTick,
    decide_eq_false hpre]

/-- The first one of the preamble starts in the slot that fetches the frame (R113). -/
theorem emits_fetch {s : State} (hinv : Inv s) (hready : s.atReadySlot) :
    ∃ count t, s.tx.preambleLen.toNat = count + 1 ∧ Emits s (bitWave true) t ∧
      SendsPreamble s.cfg.emitEndBit (s.tx.loadFrame s.feed).txBytes (s.tx.loadFrame s.feed).txLen.toNat count t := by
  obtain ⟨-, hpre0⟩ := toNat_preambleLen_le hinv.position.preambleLen
  have hpredec := toNat_sub_one hpre0
  obtain ⟨hmin, hmax⟩ := Tx.loadFrame_txLen (t := s.tx) (f := s.feed) hinv.slotLen
  have htick := tick_tx_atReadySlot hready hpre0
  obtain ⟨u, hemits, hu⟩ := emits_half (v := true) (by rw [htick]) (by rw [htick]; rfl) (by rw [htick]; nofun)
    (tick_atReadySlot hready).2.1
  have hu := hu (by rw [htick]; nofun)
  rw [htick] at hu
  have hstate : u.tx.txState = .preamble := by rw [hu]
  have hcnt : u.tx.preCnt = s.tx.preambleLen := by rw [hu]
  obtain ⟨t, hemits', ht⟩ := emits_second (s := u) (by rw [hu]; exact ⟨rfl, rfl⟩) (.inl hstate) (by rw [hu])
  have ht := ht fun hdata => nomatch hstate.symm.trans hdata
  rw [Tx.currentBit_preamble hstate, hcnt, decide_eq_true hpre0] at hemits'
  rw [Tx.afterBit_one hstate (hcnt ▸ hpre0), hu] at ht
  refine ⟨(s.tx.preambleLen - 1).toNat, t, hpredec.symm, hemits.append hemits', hemits'.cfg.trans hemits.cfg ▸ rfl,
    ?_, ?_, ?_, ?_, ?_, ?_, hmax, Nat.lt_of_lt_of_le (by decide : 0 < lenMin) hmin⟩ <;> rw [ht]
  exact ⟨rfl, rfl⟩

/-- Settles O17: the slot that fetches the frame starts the first bit, and the rest is `SendsPreamble.frame`. -/
theorem frameIsSentBitForBit : Obligations.FrameIsSentBitForBit := by
  unfold Obligations.FrameIsSentBitForBit
  intro s hinv honly hready
  obtain ⟨count, t, hcount, hemits, ht⟩ := emits_fetch hinv hready
  obtain ⟨u, hemits'⟩ := ht.frame
  rw [take_loadFrame] at hemits'
  rw [hcount]
  exact (hemits.append hemits').polarities_eq honly

end Sys2Proof.Machine
end
